-- ==== Sys2Proof/Word.lean ====
section
/-! DEFINITION. The word types of the RTU102 CORE (00_scope.md R6). -/

namespace Sys2Proof

/-- A byte: 8 bits (R6). -/
abbrev Byte := BitVec 8

/-- A `u32` of R6: a cipher word, a key word, a timestamp. -/
abbrev Word := BitVec 32

end Sys2Proof
end

