-- ==== Sys2Proof/Config.lean ====
section
/-! DEFINITION. The implementation parameters of 00_scope.md R5: constants, the open event table EVT_LEN,
and the free values the spec leaves open (log 3, 5, 7, 8). -/

namespace Sys2Proof.Config

/-- START, the frame's first byte (R5, R63). -/
def START : Byte := 0xC0

/-- END, the frame's last byte (R5, R63). -/
def END : Byte := 0xC2

/-- ESC, the escape marker (R5, R64). -/
def ESC : Byte := 0xC4

/-- The escape code of 0xC0 (R5, R64). -/
def codeC0 : Byte := 0xC1

/-- The escape code of 0xC2 (R5, R64). -/
def codeC2 : Byte := 0xC3

/-- The escape code of 0xC4 (R5, R64). -/
def codeC4 : Byte := 0xC4

/-- BLOCK, the cipher's block size in bytes (R5, R100). -/
def BLOCK : Nat := 8

/-- KEYLEN, the key length in bytes (R5, R100). -/
def KEYLEN : Nat := 16

/-- DELTA (R5, R100). -/
def DELTA : Word := 0x9E3779B9

/-- The reset value of ROUNDS (R5, R16). -/
def defaultRounds : BitVec 32 := 32

/-- The checksum polynomial (R5, R90). -/
def crcPoly : BitVec 16 := 0x1021

/-- The default start value of the checksum (R5, R90). -/
def crcDefault : BitVec 16 := 0xFFFF

/-- MIN_BODY (R5, R140). -/
def MIN_BODY : Nat := 16

/-- BUF_CAP, the capacity of IBUF in bytes (R5, R27, D3). -/
def BUF_CAP : Nat := 65535

/-- The fixed length of an event entry's value: `option {1, 4}` of 45_event_parser.md R201. -/
inductive EvtLen
  | one
  | four
  deriving DecidableEq, Repr, Inhabited

/-- The number of value bytes. -/
def EvtLen.toNat : EvtLen → Nat
  | .one => 1
  | .four => 4

/-- The open choice of which ids besides 0 and 20 have an EVT_LEN entry (R201, log 7): pick number `k`
takes the id at index `evtPick k`, modulo what is left. -/
opaque evtPick : Nat → Nat

/-- The open choice of the length of an entry besides 0 and 20 (R201, log 7): 4 bytes or 1. -/
opaque evtFour : Byte → Bool

/-- The 254 type ids other than 0 and 20. -/
def evtOtherIds : List Byte :=
  ((List.range 256).map (BitVec.ofNat 8)).filter fun t => t ≠ 0 ∧ t ≠ 20

/-- `n` distinct elements of `ids`, chosen by `pick`. -/
def pickIds (pick : Nat → Nat) : Nat → List Byte → List Byte
  | 0, _ => []
  | n + 1, ids =>
    let k := pick n % ids.length
    (ids.drop k).take 1 ++ pickIds pick n (ids.take k ++ ids.drop (k + 1))

/-- The 50 ids besides 0 and 20 that have an EVT_LEN entry (R201 1 and 3). -/
def evtIds : List Byte := pickIds evtPick 50 evtOtherIds

/-- EVT_LEN (45_event_parser.md R201): 52 entries, each 1 or 4, `EVT_LEN(0) = 4`, `EVT_LEN(20) = 1`; the other
50 are open. -/
def evtLen (t : Byte) : Option EvtLen :=
  if t = 0 then some .four
  else if t = 20 then some .one
  else if t ∈ evtIds then some (if evtFour t then .four else .one)
  else none

/-- FAIL_POINT (R5, 44_payload_decoder.md R180). -/
inductive FailPoint
  | readOffset
  | recordStart
  deriving DecidableEq, Repr

/-- What the payload decoder takes as parameters: FAIL_POINT and EVT_LEN (R5). -/
structure Params where
  failPoint : FailPoint
  evtLen : Byte → Option EvtLen

/-- The parameters of this hardware: FAIL_POINT at the value R5 gives it (log 13), EVT_LEN open. -/
def params : Params := { failPoint := .readOffset, evtLen := evtLen }

/-- KEY after reset, unspecified by R38 (log 3). -/
opaque keyAtReset : Vector Byte 16

/-- DEVID_IN after reset, unspecified by R38 (log 3). -/
opaque devidInAtReset : BitVec 64

/-- The KeyResolver's per-device table at reset, of the open parameter KR (R143, log 8). -/
opaque keyTableAtReset : List (List Byte × List Byte)

/-- The KeyResolver's default at reset, of the open parameter KR (R143, log 8). -/
opaque keyDefaultAtReset : Option (List Byte)

/-- The value CRC holds between commands (93_implementation_defined.md U8, log 5). -/
opaque freeCrc : Nat → BitVec 16

/-- The values V0, V1, S, K[0..3] (numbers 0 to 6) hold between commands (U8, log 5). -/
opaque freeWord : Nat → Nat → Word

/-- The contents BODY, CT, PT (numbers 0 to 2) have between commands (R28, log 5). -/
opaque freeBytes : Nat → Nat → List Byte

end Sys2Proof.Config
end

