-- ==== Sys2Proof/Syntax.lean ====
section
/-! DEFINITION. The instructions: one constructor per row of spec/opcode_table.json.
Rows whose match and mask leave bits free carry the whole byte; a row's fixed bits are checked in WellFormed. -/

namespace Sys2Proof

/-- The decode spaces of 30_encoding.md (opening): which buffer or register the next symbol is read from.
PAYLOAD_REMAINDER is tested with RECORD (R70), UNSTUFF_IN8 and UNSTUFF_IN16 are one scan (R122). -/
inductive Space
  | cmd
  | record
  | stuffIn
  | unstuffIn
  | entry
  deriving DecidableEq, Repr

/-- The instructions of the CORE. -/
inductive Instr
  -- Commands: the 8-bit code in CMD (R60, R61, R62).
  | crc16   -- CRC16 (R92)
  | xteaEnc   -- XTEA_ENC (R107)
  | xteaDec   -- XTEA_DEC (R108)
  | stuff   -- STUFF (R121)
  | unstuff   -- UNSTUFF (R123)
  | decode   -- DECODE (R136)
  | parse   -- PARSE (R160)
  | evparse   -- EVPARSE (R206)
  | prep   -- PREP (R216)
  | frame   -- FRAME (R218)
  | build   -- BUILD (R220)
  | illegalCmd00_00   -- ILLEGAL_CMD_00_00: an illegal command code (R62)
  | illegalCmd0C_0F (code : Byte)   -- ILLEGAL_CMD_0C_0F: an illegal command code (R62)
  | illegalCmd10_1F (code : Byte)   -- ILLEGAL_CMD_10_1F: an illegal command code (R62)
  | illegalCmd20_3F (code : Byte)   -- ILLEGAL_CMD_20_3F: an illegal command code (R62)
  | illegalCmd40_7F (code : Byte)   -- ILLEGAL_CMD_40_7F: an illegal command code (R62)
  | illegalCmd80_FF (code : Byte)   -- ILLEGAL_CMD_80_FF: an illegal command code (R62)
  -- Records: the data id that opens a record (R68, R69, R70).
  | configCommand   -- config_command (R163)
  | configResponse   -- config_response (R165)
  | archive   -- archive (R166)
  | archiveAck   -- archive_ack (R167)
  | readCommand   -- read_command (R164)
  | readResponse   -- read_response (R168)
  | auth   -- auth (R169)
  | telemetry   -- telemetry (R170)
  | rtu800Extended10   -- rtu800_extended_10: data id of kind `rtu800_extended` (R171)
  | rtu800Extended11   -- rtu800_extended_11: data id of kind `rtu800_extended` (R171)
  | rtu800Extended12   -- rtu800_extended_12: data id of kind `rtu800_extended` (R171)
  | rtu800Extended13   -- rtu800_extended_13: data id of kind `rtu800_extended` (R171)
  | rtu800Extended14   -- rtu800_extended_14: data id of kind `rtu800_extended` (R171)
  | unknown00_00   -- unknown_00_00: data id of kind `unknown` (R172)
  | unknown05_05   -- unknown_05_05: data id of kind `unknown` (R172)
  | unknown0F_0F   -- unknown_0F_0F: data id of kind `unknown` (R172)
  | unknown10_1F (id : Byte)   -- unknown_10_1F: data id of kind `unknown` (R172)
  | unknown20_3F (id : Byte)   -- unknown_20_3F: data id of kind `unknown` (R172)
  | unknown40_7F (id : Byte)   -- unknown_40_7F: data id of kind `unknown` (R172)
  | unknown80_FF (id : Byte)   -- unknown_80_FF: data id of kind `unknown` (R172)
  -- Padding (R161).
  | pad   -- PAD: an all-zero remainder
  -- One input byte of `stuff` (R64, R120).
  | stuffC0   -- STUFF_C0 (R120)
  | stuffC2   -- STUFF_C2 (R120)
  | stuffC4   -- STUFF_C4 (R120)
  | stuffLit00_7F (b : Byte)   -- STUFF_LIT_00_7F: a byte `stuff` copies (R120)
  | stuffLit80_BF (b : Byte)   -- STUFF_LIT_80_BF: a byte `stuff` copies (R120)
  | stuffLitC1_C1   -- STUFF_LIT_C1_C1: a byte `stuff` copies (R120)
  | stuffLitC3_C3   -- STUFF_LIT_C3_C3: a byte `stuff` copies (R120)
  | stuffLitC5_C5   -- STUFF_LIT_C5_C5: a byte `stuff` copies (R120)
  | stuffLitC6_C7 (b : Byte)   -- STUFF_LIT_C6_C7: a byte `stuff` copies (R120)
  | stuffLitC8_CF (b : Byte)   -- STUFF_LIT_C8_CF: a byte `stuff` copies (R120)
  | stuffLitD0_DF (b : Byte)   -- STUFF_LIT_D0_DF: a byte `stuff` copies (R120)
  | stuffLitE0_FF (b : Byte)   -- STUFF_LIT_E0_FF: a byte `stuff` copies (R120)
  -- One input byte of `unstuff` other than 0xC4 (R122, R125).
  | unstuffLit00_7F (b : Byte)   -- UNSTUFF_LIT_00_7F: a byte `unstuff` copies (R122, R125)
  | unstuffLit80_BF (b : Byte)   -- UNSTUFF_LIT_80_BF: a byte `unstuff` copies (R122, R125)
  | unstuffLitC0_C3 (b : Byte)   -- UNSTUFF_LIT_C0_C3: a byte `unstuff` copies (R122, R125)
  | unstuffLitC5_C5   -- UNSTUFF_LIT_C5_C5: a byte `unstuff` copies (R122, R125)
  | unstuffLitC6_C7 (b : Byte)   -- UNSTUFF_LIT_C6_C7: a byte `unstuff` copies (R122, R125)
  | unstuffLitC8_CF (b : Byte)   -- UNSTUFF_LIT_C8_CF: a byte `unstuff` copies (R122, R125)
  | unstuffLitD0_DF (b : Byte)   -- UNSTUFF_LIT_D0_DF: a byte `unstuff` copies (R122, R125)
  | unstuffLitE0_FF (b : Byte)   -- UNSTUFF_LIT_E0_FF: a byte `unstuff` copies (R122, R125)
  -- The pair that an 0xC4 opens in the input of `unstuff` (R64, R122).
  | unstuffEscC1   -- UNSTUFF_ESC_C1: a legal escape pair (R64, R122)
  | unstuffEscC3   -- UNSTUFF_ESC_C3: a legal escape pair (R64, R122)
  | unstuffEscC4   -- UNSTUFF_ESC_C4: a legal escape pair (R64, R122)
  | unstuffBadEsc00_7F (n : Byte)   -- UNSTUFF_BAD_ESC_00_7F: an illegal escape pair, with its second byte (R122)
  | unstuffBadEsc80_BF (n : Byte)   -- UNSTUFF_BAD_ESC_80_BF: an illegal escape pair, with its second byte (R122)
  | unstuffBadEscC0_C0   -- UNSTUFF_BAD_ESC_C0_C0: an illegal escape pair, with its second byte (R122)
  | unstuffBadEscC2_C2   -- UNSTUFF_BAD_ESC_C2_C2: an illegal escape pair, with its second byte (R122)
  | unstuffBadEscC5_C5   -- UNSTUFF_BAD_ESC_C5_C5: an illegal escape pair, with its second byte (R122)
  | unstuffBadEscC6_C7 (n : Byte)   -- UNSTUFF_BAD_ESC_C6_C7: an illegal escape pair, with its second byte (R122)
  | unstuffBadEscC8_CF (n : Byte)   -- UNSTUFF_BAD_ESC_C8_CF: an illegal escape pair, with its second byte (R122)
  | unstuffBadEscD0_DF (n : Byte)   -- UNSTUFF_BAD_ESC_D0_DF: an illegal escape pair, with its second byte (R122)
  | unstuffBadEscE0_FF (n : Byte)   -- UNSTUFF_BAD_ESC_E0_FF: an illegal escape pair, with its second byte (R122)
  | unstuffDangling   -- UNSTUFF_DANGLING: 0xC4 as the last byte
  -- Event entries: the type id that opens an entry (R73, R201, R202).
  | entryType0   -- ENTRY_TYPE_0 (R202)
  | entryType20   -- ENTRY_TYPE_20 (R202)
  | entryTypeOther01_01   -- ENTRY_TYPE_OTHER_01_01: a type id whose EVT_LEN entry is open (R201)
  | entryTypeOther02_03 (t : Byte)   -- ENTRY_TYPE_OTHER_02_03: a type id whose EVT_LEN entry is open (R201)
  | entryTypeOther04_07 (t : Byte)   -- ENTRY_TYPE_OTHER_04_07: a type id whose EVT_LEN entry is open (R201)
  | entryTypeOther08_0F (t : Byte)   -- ENTRY_TYPE_OTHER_08_0F: a type id whose EVT_LEN entry is open (R201)
  | entryTypeOther10_13 (t : Byte)   -- ENTRY_TYPE_OTHER_10_13: a type id whose EVT_LEN entry is open (R201)
  | entryTypeOther15_15   -- ENTRY_TYPE_OTHER_15_15: a type id whose EVT_LEN entry is open (R201)
  | entryTypeOther16_17 (t : Byte)   -- ENTRY_TYPE_OTHER_16_17: a type id whose EVT_LEN entry is open (R201)
  | entryTypeOther18_1F (t : Byte)   -- ENTRY_TYPE_OTHER_18_1F: a type id whose EVT_LEN entry is open (R201)
  | entryTypeOther20_3F (t : Byte)   -- ENTRY_TYPE_OTHER_20_3F: a type id whose EVT_LEN entry is open (R201)
  | entryTypeOther40_7F (t : Byte)   -- ENTRY_TYPE_OTHER_40_7F: a type id whose EVT_LEN entry is open (R201)
  | entryTypeOther80_FF (t : Byte)   -- ENTRY_TYPE_OTHER_80_FF: a type id whose EVT_LEN entry is open (R201)
  deriving DecidableEq, Repr

/-- The decode space of each instruction. -/
def Instr.space : Instr → Space
  | .crc16 => .cmd
  | .xteaEnc => .cmd
  | .xteaDec => .cmd
  | .stuff => .cmd
  | .unstuff => .cmd
  | .decode => .cmd
  | .parse => .cmd
  | .evparse => .cmd
  | .prep => .cmd
  | .frame => .cmd
  | .build => .cmd
  | .illegalCmd00_00 => .cmd
  | .illegalCmd0C_0F _ => .cmd
  | .illegalCmd10_1F _ => .cmd
  | .illegalCmd20_3F _ => .cmd
  | .illegalCmd40_7F _ => .cmd
  | .illegalCmd80_FF _ => .cmd
  | .configCommand => .record
  | .configResponse => .record
  | .archive => .record
  | .archiveAck => .record
  | .readCommand => .record
  | .readResponse => .record
  | .auth => .record
  | .telemetry => .record
  | .rtu800Extended10 => .record
  | .rtu800Extended11 => .record
  | .rtu800Extended12 => .record
  | .rtu800Extended13 => .record
  | .rtu800Extended14 => .record
  | .unknown00_00 => .record
  | .unknown05_05 => .record
  | .unknown0F_0F => .record
  | .unknown10_1F _ => .record
  | .unknown20_3F _ => .record
  | .unknown40_7F _ => .record
  | .unknown80_FF _ => .record
  | .pad => .record
  | .stuffC0 => .stuffIn
  | .stuffC2 => .stuffIn
  | .stuffC4 => .stuffIn
  | .stuffLit00_7F _ => .stuffIn
  | .stuffLit80_BF _ => .stuffIn
  | .stuffLitC1_C1 => .stuffIn
  | .stuffLitC3_C3 => .stuffIn
  | .stuffLitC5_C5 => .stuffIn
  | .stuffLitC6_C7 _ => .stuffIn
  | .stuffLitC8_CF _ => .stuffIn
  | .stuffLitD0_DF _ => .stuffIn
  | .stuffLitE0_FF _ => .stuffIn
  | .unstuffLit00_7F _ => .unstuffIn
  | .unstuffLit80_BF _ => .unstuffIn
  | .unstuffLitC0_C3 _ => .unstuffIn
  | .unstuffLitC5_C5 => .unstuffIn
  | .unstuffLitC6_C7 _ => .unstuffIn
  | .unstuffLitC8_CF _ => .unstuffIn
  | .unstuffLitD0_DF _ => .unstuffIn
  | .unstuffLitE0_FF _ => .unstuffIn
  | .unstuffEscC1 => .unstuffIn
  | .unstuffEscC3 => .unstuffIn
  | .unstuffEscC4 => .unstuffIn
  | .unstuffBadEsc00_7F _ => .unstuffIn
  | .unstuffBadEsc80_BF _ => .unstuffIn
  | .unstuffBadEscC0_C0 => .unstuffIn
  | .unstuffBadEscC2_C2 => .unstuffIn
  | .unstuffBadEscC5_C5 => .unstuffIn
  | .unstuffBadEscC6_C7 _ => .unstuffIn
  | .unstuffBadEscC8_CF _ => .unstuffIn
  | .unstuffBadEscD0_DF _ => .unstuffIn
  | .unstuffBadEscE0_FF _ => .unstuffIn
  | .unstuffDangling => .unstuffIn
  | .entryType0 => .entry
  | .entryType20 => .entry
  | .entryTypeOther01_01 => .entry
  | .entryTypeOther02_03 _ => .entry
  | .entryTypeOther04_07 _ => .entry
  | .entryTypeOther08_0F _ => .entry
  | .entryTypeOther10_13 _ => .entry
  | .entryTypeOther15_15 => .entry
  | .entryTypeOther16_17 _ => .entry
  | .entryTypeOther18_1F _ => .entry
  | .entryTypeOther20_3F _ => .entry
  | .entryTypeOther40_7F _ => .entry
  | .entryTypeOther80_FF _ => .entry

/-- A command (R61, R62): the instructions of the space CMD. -/
def Instr.isCommand (i : Instr) : Bool := i.space == .cmd

end Sys2Proof
end

