-- ==== Sys2Proof/WellFormed.lean ====
section
/-! DEFINITION. Well-formed instructions: the operand byte of a row that covers a block of values lies in the
block the row's mnemonic names (30_encoding.md, opening; R62, R70, R120, R122, R201). -/

namespace Sys2Proof

/-- `b` lies in the block `lo .. hi`, both included. -/
def inBlock (lo hi b : Byte) : Bool := lo ≤ b && b ≤ hi

/-- The instruction's operand is one its row admits. -/
def Instr.wf : Instr → Bool
  | .crc16 => true
  | .xteaEnc => true
  | .xteaDec => true
  | .stuff => true
  | .unstuff => true
  | .decode => true
  | .parse => true
  | .evparse => true
  | .prep => true
  | .frame => true
  | .build => true
  | .illegalCmd00_00 => true
  | .illegalCmd0C_0F code => inBlock 0x0C 0x0F code
  | .illegalCmd10_1F code => inBlock 0x10 0x1F code
  | .illegalCmd20_3F code => inBlock 0x20 0x3F code
  | .illegalCmd40_7F code => inBlock 0x40 0x7F code
  | .illegalCmd80_FF code => inBlock 0x80 0xFF code
  | .configCommand => true
  | .configResponse => true
  | .archive => true
  | .archiveAck => true
  | .readCommand => true
  | .readResponse => true
  | .auth => true
  | .telemetry => true
  | .rtu800Extended10 => true
  | .rtu800Extended11 => true
  | .rtu800Extended12 => true
  | .rtu800Extended13 => true
  | .rtu800Extended14 => true
  | .unknown00_00 => true
  | .unknown05_05 => true
  | .unknown0F_0F => true
  | .unknown10_1F id => inBlock 0x10 0x1F id
  | .unknown20_3F id => inBlock 0x20 0x3F id
  | .unknown40_7F id => inBlock 0x40 0x7F id
  | .unknown80_FF id => inBlock 0x80 0xFF id
  | .pad => true
  | .stuffC0 => true
  | .stuffC2 => true
  | .stuffC4 => true
  | .stuffLit00_7F b => inBlock 0x00 0x7F b
  | .stuffLit80_BF b => inBlock 0x80 0xBF b
  | .stuffLitC1_C1 => true
  | .stuffLitC3_C3 => true
  | .stuffLitC5_C5 => true
  | .stuffLitC6_C7 b => inBlock 0xC6 0xC7 b
  | .stuffLitC8_CF b => inBlock 0xC8 0xCF b
  | .stuffLitD0_DF b => inBlock 0xD0 0xDF b
  | .stuffLitE0_FF b => inBlock 0xE0 0xFF b
  | .unstuffLit00_7F b => inBlock 0x00 0x7F b
  | .unstuffLit80_BF b => inBlock 0x80 0xBF b
  | .unstuffLitC0_C3 b => inBlock 0xC0 0xC3 b
  | .unstuffLitC5_C5 => true
  | .unstuffLitC6_C7 b => inBlock 0xC6 0xC7 b
  | .unstuffLitC8_CF b => inBlock 0xC8 0xCF b
  | .unstuffLitD0_DF b => inBlock 0xD0 0xDF b
  | .unstuffLitE0_FF b => inBlock 0xE0 0xFF b
  | .unstuffEscC1 => true
  | .unstuffEscC3 => true
  | .unstuffEscC4 => true
  | .unstuffBadEsc00_7F n => inBlock 0x00 0x7F n
  | .unstuffBadEsc80_BF n => inBlock 0x80 0xBF n
  | .unstuffBadEscC0_C0 => true
  | .unstuffBadEscC2_C2 => true
  | .unstuffBadEscC5_C5 => true
  | .unstuffBadEscC6_C7 n => inBlock 0xC6 0xC7 n
  | .unstuffBadEscC8_CF n => inBlock 0xC8 0xCF n
  | .unstuffBadEscD0_DF n => inBlock 0xD0 0xDF n
  | .unstuffBadEscE0_FF n => inBlock 0xE0 0xFF n
  | .unstuffDangling => true
  | .entryType0 => true
  | .entryType20 => true
  | .entryTypeOther01_01 => true
  | .entryTypeOther02_03 t => inBlock 0x02 0x03 t
  | .entryTypeOther04_07 t => inBlock 0x04 0x07 t
  | .entryTypeOther08_0F t => inBlock 0x08 0x0F t
  | .entryTypeOther10_13 t => inBlock 0x10 0x13 t
  | .entryTypeOther15_15 => true
  | .entryTypeOther16_17 t => inBlock 0x16 0x17 t
  | .entryTypeOther18_1F t => inBlock 0x18 0x1F t
  | .entryTypeOther20_3F t => inBlock 0x20 0x3F t
  | .entryTypeOther40_7F t => inBlock 0x40 0x7F t
  | .entryTypeOther80_FF t => inBlock 0x80 0xFF t

end Sys2Proof
end

