-- ==== Sys2Proof/Decode.lean ====
section
/-! DEFINITION. The decoder, total on any bytes, and the encoder, both from the opcode table
(30_encoding.md R61, R62, R64, R70, R73; 42_framer.md R120, R122; 45_event_parser.md R201, R202). -/

namespace Sys2Proof

/-- A row of the opcode table with an 8-bit match and mask, and the instruction of a byte it covers. -/
structure Row8 where
  pat : Byte
  mask : Byte
  make : Byte → Instr

/-- A row of the opcode table with a 16-bit match and mask; `make` takes the second byte of the pair. -/
structure Row16 where
  pat : BitVec 16
  mask : BitVec 16
  make : Byte → Instr

/-- The byte belongs to the row. -/
def Row8.covers (r : Row8) (b : Byte) : Bool := b &&& r.mask == r.pat

/-- The pair belongs to the row. -/
def Row16.covers (r : Row16) (w : BitVec 16) : Bool := w &&& r.mask == r.pat

/-- The rows of space CMD (R61, R62). -/
def cmdRows : List Row8 :=
  [⟨0x01, 0xFF, fun _ => .crc16⟩,
   ⟨0x02, 0xFF, fun _ => .xteaEnc⟩,
   ⟨0x03, 0xFF, fun _ => .xteaDec⟩,
   ⟨0x04, 0xFF, fun _ => .stuff⟩,
   ⟨0x05, 0xFF, fun _ => .unstuff⟩,
   ⟨0x06, 0xFF, fun _ => .decode⟩,
   ⟨0x07, 0xFF, fun _ => .parse⟩,
   ⟨0x08, 0xFF, fun _ => .evparse⟩,
   ⟨0x09, 0xFF, fun _ => .prep⟩,
   ⟨0x0A, 0xFF, fun _ => .frame⟩,
   ⟨0x0B, 0xFF, fun _ => .build⟩,
   ⟨0x00, 0xFF, fun _ => .illegalCmd00_00⟩,
   ⟨0x0C, 0xFC, .illegalCmd0C_0F⟩,
   ⟨0x10, 0xF0, .illegalCmd10_1F⟩,
   ⟨0x20, 0xE0, .illegalCmd20_3F⟩,
   ⟨0x40, 0xC0, .illegalCmd40_7F⟩,
   ⟨0x80, 0x80, .illegalCmd80_FF⟩]

/-- The rows of space RECORD (R70). -/
def recordRows : List Row8 :=
  [⟨0x01, 0xFF, fun _ => .configCommand⟩,
   ⟨0x02, 0xFF, fun _ => .configResponse⟩,
   ⟨0x03, 0xFF, fun _ => .archive⟩,
   ⟨0x04, 0xFF, fun _ => .archiveAck⟩,
   ⟨0x06, 0xFF, fun _ => .readCommand⟩,
   ⟨0x07, 0xFF, fun _ => .readResponse⟩,
   ⟨0x08, 0xFF, fun _ => .auth⟩,
   ⟨0x09, 0xFF, fun _ => .telemetry⟩,
   ⟨0x0A, 0xFF, fun _ => .rtu800Extended10⟩,
   ⟨0x0B, 0xFF, fun _ => .rtu800Extended11⟩,
   ⟨0x0C, 0xFF, fun _ => .rtu800Extended12⟩,
   ⟨0x0D, 0xFF, fun _ => .rtu800Extended13⟩,
   ⟨0x0E, 0xFF, fun _ => .rtu800Extended14⟩,
   ⟨0x00, 0xFF, fun _ => .unknown00_00⟩,
   ⟨0x05, 0xFF, fun _ => .unknown05_05⟩,
   ⟨0x0F, 0xFF, fun _ => .unknown0F_0F⟩,
   ⟨0x10, 0xF0, .unknown10_1F⟩,
   ⟨0x20, 0xE0, .unknown20_3F⟩,
   ⟨0x40, 0xC0, .unknown40_7F⟩,
   ⟨0x80, 0x80, .unknown80_FF⟩]

/-- The rows of space STUFF_IN (R120). -/
def stuffRows : List Row8 :=
  [⟨0xC0, 0xFF, fun _ => .stuffC0⟩,
   ⟨0xC2, 0xFF, fun _ => .stuffC2⟩,
   ⟨0xC4, 0xFF, fun _ => .stuffC4⟩,
   ⟨0x00, 0x80, .stuffLit00_7F⟩,
   ⟨0x80, 0xC0, .stuffLit80_BF⟩,
   ⟨0xC1, 0xFF, fun _ => .stuffLitC1_C1⟩,
   ⟨0xC3, 0xFF, fun _ => .stuffLitC3_C3⟩,
   ⟨0xC5, 0xFF, fun _ => .stuffLitC5_C5⟩,
   ⟨0xC6, 0xFE, .stuffLitC6_C7⟩,
   ⟨0xC8, 0xF8, .stuffLitC8_CF⟩,
   ⟨0xD0, 0xF0, .stuffLitD0_DF⟩,
   ⟨0xE0, 0xE0, .stuffLitE0_FF⟩]

/-- The rows of space UNSTUFF_IN8 (R122, R125). -/
def unstuffRows8 : List Row8 :=
  [⟨0x00, 0x80, .unstuffLit00_7F⟩,
   ⟨0x80, 0xC0, .unstuffLit80_BF⟩,
   ⟨0xC0, 0xFC, .unstuffLitC0_C3⟩,
   ⟨0xC5, 0xFF, fun _ => .unstuffLitC5_C5⟩,
   ⟨0xC6, 0xFE, .unstuffLitC6_C7⟩,
   ⟨0xC8, 0xF8, .unstuffLitC8_CF⟩,
   ⟨0xD0, 0xF0, .unstuffLitD0_DF⟩,
   ⟨0xE0, 0xE0, .unstuffLitE0_FF⟩]

/-- The rows of space UNSTUFF_IN16 with a second byte (R122); the first byte of the pair is the high byte, as the
table numbers it. -/
def unstuffRows16 : List Row16 :=
  [⟨0xC4C1, 0xFFFF, fun _ => .unstuffEscC1⟩,
   ⟨0xC4C3, 0xFFFF, fun _ => .unstuffEscC3⟩,
   ⟨0xC4C4, 0xFFFF, fun _ => .unstuffEscC4⟩,
   ⟨0xC400, 0xFF80, .unstuffBadEsc00_7F⟩,
   ⟨0xC480, 0xFFC0, .unstuffBadEsc80_BF⟩,
   ⟨0xC4C0, 0xFFFF, fun _ => .unstuffBadEscC0_C0⟩,
   ⟨0xC4C2, 0xFFFF, fun _ => .unstuffBadEscC2_C2⟩,
   ⟨0xC4C5, 0xFFFF, fun _ => .unstuffBadEscC5_C5⟩,
   ⟨0xC4C6, 0xFFFE, .unstuffBadEscC6_C7⟩,
   ⟨0xC4C8, 0xFFF8, .unstuffBadEscC8_CF⟩,
   ⟨0xC4D0, 0xFFF0, .unstuffBadEscD0_DF⟩,
   ⟨0xC4E0, 0xFFE0, .unstuffBadEscE0_FF⟩]

/-- The rows of space ENTRY (R201, R202). -/
def entryRows : List Row8 :=
  [⟨0x00, 0xFF, fun _ => .entryType0⟩,
   ⟨0x14, 0xFF, fun _ => .entryType20⟩,
   ⟨0x01, 0xFF, fun _ => .entryTypeOther01_01⟩,
   ⟨0x02, 0xFE, .entryTypeOther02_03⟩,
   ⟨0x04, 0xFC, .entryTypeOther04_07⟩,
   ⟨0x08, 0xF8, .entryTypeOther08_0F⟩,
   ⟨0x10, 0xFC, .entryTypeOther10_13⟩,
   ⟨0x15, 0xFF, fun _ => .entryTypeOther15_15⟩,
   ⟨0x16, 0xFE, .entryTypeOther16_17⟩,
   ⟨0x18, 0xF8, .entryTypeOther18_1F⟩,
   ⟨0x20, 0xE0, .entryTypeOther20_3F⟩,
   ⟨0x40, 0xC0, .entryTypeOther40_7F⟩,
   ⟨0x80, 0x80, .entryTypeOther80_FF⟩]

/-- The instruction of the first row that covers `b`. -/
def lookup8 (rows : List Row8) (b : Byte) : Option Instr :=
  (rows.find? (·.covers b)).map (·.make b)

/-- The instruction of the first row that covers the pair 0xC4, `n`. -/
def lookup16 (rows : List Row16) (n : Byte) : Option Instr :=
  (rows.find? (·.covers (Config.ESC ++ n))).map (·.make n)

/-- Every byte is 0; true of the empty sequence (R6). -/
def allZero (bs : List Byte) : Bool := bs.all (· == 0)

/-- Why a sequence of bytes opens no instruction. -/
inductive DecodeError
  /-- The sequence is empty: the input of the walk is at its end, or no command code stands in CMD. -/
  | endOfInput
  /-- No row of the space covers the first symbol. No sequence meets this: the rows of each space cover every
  value (30_encoding.md, opening). -/
  | noRow
  deriving DecidableEq, Repr

/-- A lookup's answer, a missing row rejected by name. -/
def orNoRow : Option Instr → Except DecodeError Instr
  | some i => .ok i
  | none => .error .noRow

/-- The first instruction of the sequence `bs` read in the space `sp`. The padding test (R70, R161) looks at the
whole of `bs`; an 0xC4 in the input of `unstuff` looks at the byte after it (R122); else the first byte decides. -/
def decode (sp : Space) (bs : List Byte) : Except DecodeError Instr :=
  match bs with
  | [] => .error .endOfInput
  | b :: rest =>
    match sp with
    | .cmd => orNoRow (lookup8 cmdRows b)
    | .record => if b == 0 && allZero rest then .ok .pad else orNoRow (lookup8 recordRows b)
    | .stuffIn => orNoRow (lookup8 stuffRows b)
    | .unstuffIn =>
      if b == Config.ESC then
        match rest with
        | [] => .ok .unstuffDangling
        | n :: _ => orNoRow (lookup16 unstuffRows16 n)
      else orNoRow (lookup8 unstuffRows8 b)
    | .entry => orNoRow (lookup8 entryRows b)

/-- The bytes of an instruction: its tag byte, or the pair that an 0xC4 opens. The bytes a record or an entry takes
after its tag are data of the walked buffer, not of the encoding (R68, R69, R73). PAD is written with one zero
byte; the rest of its zeros follow as the rest of the buffer (R161). -/
def encode : Instr → List Byte
  | .crc16 => [0x01]
  | .xteaEnc => [0x02]
  | .xteaDec => [0x03]
  | .stuff => [0x04]
  | .unstuff => [0x05]
  | .decode => [0x06]
  | .parse => [0x07]
  | .evparse => [0x08]
  | .prep => [0x09]
  | .frame => [0x0A]
  | .build => [0x0B]
  | .illegalCmd00_00 => [0x00]
  | .illegalCmd0C_0F code => [code]
  | .illegalCmd10_1F code => [code]
  | .illegalCmd20_3F code => [code]
  | .illegalCmd40_7F code => [code]
  | .illegalCmd80_FF code => [code]
  | .configCommand => [0x01]
  | .configResponse => [0x02]
  | .archive => [0x03]
  | .archiveAck => [0x04]
  | .readCommand => [0x06]
  | .readResponse => [0x07]
  | .auth => [0x08]
  | .telemetry => [0x09]
  | .rtu800Extended10 => [0x0A]
  | .rtu800Extended11 => [0x0B]
  | .rtu800Extended12 => [0x0C]
  | .rtu800Extended13 => [0x0D]
  | .rtu800Extended14 => [0x0E]
  | .unknown00_00 => [0x00]
  | .unknown05_05 => [0x05]
  | .unknown0F_0F => [0x0F]
  | .unknown10_1F id => [id]
  | .unknown20_3F id => [id]
  | .unknown40_7F id => [id]
  | .unknown80_FF id => [id]
  | .pad => [0x00]
  | .stuffC0 => [0xC0]
  | .stuffC2 => [0xC2]
  | .stuffC4 => [0xC4]
  | .stuffLit00_7F b => [b]
  | .stuffLit80_BF b => [b]
  | .stuffLitC1_C1 => [0xC1]
  | .stuffLitC3_C3 => [0xC3]
  | .stuffLitC5_C5 => [0xC5]
  | .stuffLitC6_C7 b => [b]
  | .stuffLitC8_CF b => [b]
  | .stuffLitD0_DF b => [b]
  | .stuffLitE0_FF b => [b]
  | .unstuffLit00_7F b => [b]
  | .unstuffLit80_BF b => [b]
  | .unstuffLitC0_C3 b => [b]
  | .unstuffLitC5_C5 => [0xC5]
  | .unstuffLitC6_C7 b => [b]
  | .unstuffLitC8_CF b => [b]
  | .unstuffLitD0_DF b => [b]
  | .unstuffLitE0_FF b => [b]
  | .unstuffEscC1 => [0xC4, 0xC1]
  | .unstuffEscC3 => [0xC4, 0xC3]
  | .unstuffEscC4 => [0xC4, 0xC4]
  | .unstuffBadEsc00_7F n => [0xC4, n]
  | .unstuffBadEsc80_BF n => [0xC4, n]
  | .unstuffBadEscC0_C0 => [0xC4, 0xC0]
  | .unstuffBadEscC2_C2 => [0xC4, 0xC2]
  | .unstuffBadEscC5_C5 => [0xC4, 0xC5]
  | .unstuffBadEscC6_C7 n => [0xC4, n]
  | .unstuffBadEscC8_CF n => [0xC4, n]
  | .unstuffBadEscD0_DF n => [0xC4, n]
  | .unstuffBadEscE0_FF n => [0xC4, n]
  | .unstuffDangling => [0xC4]
  | .entryType0 => [0x00]
  | .entryType20 => [0x14]
  | .entryTypeOther01_01 => [0x01]
  | .entryTypeOther02_03 t => [t]
  | .entryTypeOther04_07 t => [t]
  | .entryTypeOther08_0F t => [t]
  | .entryTypeOther10_13 t => [t]
  | .entryTypeOther15_15 => [0x15]
  | .entryTypeOther16_17 t => [t]
  | .entryTypeOther18_1F t => [t]
  | .entryTypeOther20_3F t => [t]
  | .entryTypeOther40_7F t => [t]
  | .entryTypeOther80_FF t => [t]

/-- What must follow an instruction's bytes for them to be read as it: only zeros after PAD (R161), not only zeros
after a data id 0x00 (R70, R172), nothing after a dangling 0xC4 (R122), anything after every other one. -/
def Instr.fits (i : Instr) (rest : List Byte) : Bool :=
  match i with
  | .pad => allZero rest
  | .unknown00_00 => !allZero rest
  | .unstuffDangling => rest.isEmpty
  | _ => true

/-- The number of bytes the symbol itself takes. -/
def Instr.size (i : Instr) : Nat := (encode i).length

/-- The byte sequence of a table word: one byte, or two with the first in the high half, as the table numbers the
pairs of UNSTUFF_IN16 (log 10). -/
def tableBytes (nbits w : Nat) : List Byte :=
  if nbits = 8 then [BitVec.ofNat 8 w]
  else if nbits = 16 then [BitVec.ofNat 8 (w / 256), BitVec.ofNat 8 w]
  else []

/-- The space a table word of `nbits` bits is read in: a byte is a command code, the one word the host writes to
start the CORE; a pair is a pair of UNSTUFF_IN16 (log 10). -/
def tableSpace (nbits : Nat) : Space := if nbits = 16 then .unstuffIn else .cmd

/-- The instruction of a word of the opcode table. -/
def decodeTableWord (nbits w : Nat) : Option Instr :=
  match decode (tableSpace nbits) (tableBytes nbits w) with
  | .ok i => some i
  | .error _ => none

end Sys2Proof
end

