-- ==== Sys2Proof/Machine/State.lean ====
section
/-! DEFINITION. The state of one CORE (10_state.md R10), its values after reset (R37, R270), and the reasons a step
can stop. -/

namespace Sys2Proof.Machine

/-- STAGE (10_state.md R21), in DOC's order. -/
inductive Stage
  | none
  | frame
  | unstuff
  | imei
  | xtea
  | keyLookup
  | crc
  | payloadParse
  deriving DecidableEq, Repr

/-- The fatal reasons (60_exceptions.md R231). -/
inductive FatalReason
  | none
  | tooShort
  | invalidBoundaries
  | danglingEscapeByte
  | invalidEscapeSequence
  | bodyTooShort
  | invalidImeiBytesLength
  | invalidCiphertextLength
  | missingKeyForImei
  | invalidKeyLength
  | decryptFailed
  | plaintextTooShort
  | crcMismatch
  | cipherFailed
  deriving DecidableEq, Repr

/-- The cause of a cipher failure (41_xtea.md R106). -/
inductive Cause
  | roundsNotPositive
  | badLength
  deriving DecidableEq, Repr

/-- The detail mapping of a fatal error, one constructor per set of names in R231. -/
inductive Detail
  | empty
  | length (length : Nat)
  | boundaries (first last : Byte)
  | offset (offset : Nat)
  | escape (offset : Nat) (byte : Byte)
  | cause (cause : Cause)
  | crc (received computed : BitVec 16)
  deriving DecidableEq, Repr

/-- A fatal error as its check raises it: reason and detail; the stage tag follows from the reason (R231). -/
structure FatalError where
  reason : FatalReason
  detail : Detail
  deriving DecidableEq, Repr

/-- ERR, the latched ProtocolError (10_state.md R26). -/
structure Err where
  stage : Stage := .none
  reason : FatalReason := .none
  detail : Detail := .empty
  devidValid : Bool := false
  devid : BitVec 64 := 0
  deriving DecidableEq, Repr

/-- The status of an event entry (10_state.md R32). -/
inductive EntryStatus
  | value
  | unknown
  | lenMismatch
  deriving DecidableEq, Repr

/-- EventEntry (R32). -/
structure EventEntry where
  typeId : Byte
  status : EntryStatus
  raw : List Byte
  deriving DecidableEq, Repr

/-- ArchiveEvent (R31). -/
structure ArchiveEvent where
  code : Byte
  time : Word
  length : Byte
  entries : List EventEntry
  deriving DecidableEq, Repr

/-- An item of a `telemetry` record (R30). -/
structure Item where
  paramId : Byte
  length : Byte
  data : List Byte
  deriving DecidableEq, Repr

/-- Record (R30): one constructor per kind; the kinds with one data id do not store it. -/
inductive Record
  | configCommand (paramId length : Byte) (data : List Byte)
  | configResponse (paramId result : Byte)
  | archive (seq : Byte) (events : List ArchiveEvent)
  | archiveAck (seq : Byte)
  | readCommand (paramId length : Byte) (data : List Byte)
  | readResponse (paramId result length : Byte) (data : List Byte)
  | auth (blob : List Byte)
  | telemetry (count : Byte) (items : List Item)
  | rtu800Extended (id : Byte) (raw : List Byte)
  | unknown (id : Byte) (raw : List Byte)
  deriving DecidableEq, Repr

/-- The tag of a warning (R33). -/
inductive WarnTag
  | payloadParseError
  | unknownDataId
  | rtu800ExtendedId
  | unknownTypeId
  | eventTypeLenMismatch
  deriving DecidableEq, Repr

/-- Warning (R33): a tag and an optional byte. -/
structure Warning where
  tag : WarnTag
  arg : Option Byte
  deriving DecidableEq, Repr

/-- The non-fatal reasons (R34, 60_exceptions.md R232). -/
inductive NfReason
  | recordParseFailed
  | unknownDataId
  | rtu800ExtendedId
  | unknownTypeId
  | eventTypeLenMismatch
  deriving DecidableEq, Repr

/-- The detail mapping of a non-fatal error, one constructor per set of names in R232. -/
inductive NfDetail
  | parse (dataId : Byte) (offset need avail : Nat)
  | dataId (dataId : Byte) (offset : Nat)
  | typeId (typeId : Byte) (offset : Nat)
  | typeLen (typeId : Byte) (expected available : Nat)
  deriving DecidableEq, Repr

/-- NfError (R34). -/
structure NfError where
  stage : Stage
  reason : NfReason
  detail : NfDetail
  deriving DecidableEq, Repr

/-- The STATUS flags (10_state.md R22). -/
structure Status where
  busy : Bool := false
  done : Bool := false
  ok : Bool := false
  fatal : Bool := false
  cmdErr : Bool := false
  frameOk : Bool := false
  crcOk : Bool := false
  devidValid : Bool := false
  deriving DecidableEq, Repr

/-- The CipherEngine's registers V0, V1, S and K[0..3] (10_state.md R13, R14). -/
structure Cipher where
  v0 : Word
  v1 : Word
  s : Word
  k : Vector Word 4
  deriving DecidableEq, Repr

/-- The working registers and work buffers that mean something only while a command runs (R10, R12, R28). -/
structure Work where
  crc : BitVec 16
  cipher : Cipher
  body : List Byte
  ct : List Byte
  pt : List Byte
  deriving DecidableEq, Repr

/-- The result registers, buffers and queues (R10). The defaults are the values of R37. -/
structure Results where
  crcOut : BitVec 16 := 0
  obuf : List Byte := []
  olen : BitVec 18 := 0
  devid : BitVec 64 := 0
  padLen : Nat := 0
  err : Err := {}
  recq : List Record := []
  warnq : List Warning := []
  errq : List NfError := []
  deriving DecidableEq, Repr

/-- A scan of `stuff` or `unstuff` in progress: its input, the index `i` and the output so far
(42_framer.md R120, R122). -/
structure Scan where
  buf : List Byte
  i : Nat
  out : List Byte
  deriving DecidableEq, Repr

/-- Where the sequencer stands inside a running command, between two symbols of the buffer it walks: the local
variables of R120, R122, R160 and R202 (log 2). `idle` when no command runs. The walk offset of `records` is OFF. -/
inductive Walk
  | idle
  | stuffing (scan : Scan)
  | unstuffing (scan : Scan)
  | records (payload : List Byte)
  | entries (data : List Byte) (p : Nat) (done : List EventEntry)
  deriving DecidableEq, Repr

/-- The state of one CORE (R10), with the host's pending command (R60) and the key port's two sides (R143). -/
structure State where
  /-- ROUNDS (R16). -/
  rounds : BitVec 32
  /-- CRC_INIT (R17). -/
  crcInit : BitVec 16
  /-- KEY (R19). -/
  key : Vector Byte 16
  /-- DEVID_IN (R19). -/
  devidIn : BitVec 64
  /-- IBUF (R27): offset and byte of every byte the host has written, offsets rising. -/
  ibuf : List Host.Cell
  /-- ILEN (R27). -/
  ilen : BitVec 16
  /-- CMD (R60). -/
  cmd : Byte
  /-- CMD has been written and no rule of its command has run yet; BUSY is 1 (R22, R60, log 9). -/
  cmdPending : Bool
  /-- STATUS (R22). -/
  status : Status
  /-- STAGE (R21). -/
  stage : Stage
  /-- OFF (R20). -/
  off : Nat
  /-- CRC, V0, V1, S, K, BODY, CT, PT (R12, R13, R14, R28). -/
  work : Work
  /-- The walk a running command is in (log 2). -/
  walk : Walk
  /-- CRC_OUT, OBUF, OLEN, DEVID, PAD_LEN, ERR, RECQ, WARNQ, ERRQ (R18, R24 to R29). -/
  res : Results
  /-- The KeyResolver's per-device table, key by device-id string; the environment's, never written by a command
  (R143, log 8). -/
  keyTable : List (List Byte × List Byte)
  /-- The KeyResolver's optional default, its answer for a string the table does not list (R143, log 8). -/
  keyDefault : Option (List Byte)
  /-- The device-id strings the last command has presented on the key port (R143, log 8). -/
  keyRequests : List (List Byte)
  /-- How many free values have been used (log 6). -/
  free : Nat
  deriving DecidableEq, Repr

/-- The free values number `n` of the working registers and work buffers (U8, log 5). -/
def Work.free (n : Nat) : Work where
  crc := Config.freeCrc n
  cipher :=
    { v0 := Config.freeWord n 0
      v1 := Config.freeWord n 1
      s := Config.freeWord n 2
      k := #v[Config.freeWord n 3, Config.freeWord n 4, Config.freeWord n 5, Config.freeWord n 6] }
  body := Config.freeBytes n 0
  ct := Config.freeBytes n 1
  pt := Config.freeBytes n 2

/-- The CORE right after reset (R37, R270). KEY, DEVID_IN and the working registers, which R38 leaves unspecified,
are parameters (log 3, 5); IBUF lists nothing (log 4). -/
def State.reset : State where
  rounds := Config.defaultRounds
  crcInit := Config.crcDefault
  key := Config.keyAtReset
  devidIn := Config.devidInAtReset
  ibuf := []
  ilen := 0
  cmd := 0
  cmdPending := false
  status := {}
  stage := .none
  off := 0
  work := { Work.free 0 with body := [], ct := [], pt := [] }
  walk := .idle
  res := {}
  keyTable := Config.keyTableAtReset
  keyDefault := Config.keyDefaultAtReset
  keyRequests := []
  free := 1

/-- Why the machine stops with a fault. The fatal errors of R231 are no faults: they are next states (R240). -/
inductive Fault
  /-- A command reads an IBUF byte the host has never written (10_state.md R38, U3), at this offset. Raised by the
  read of IBUF. Safe: the hardware goes on with a byte the spec does not give. -/
  | ibufUnwritten (offset : Nat)
  /-- The host writes IBUF at an offset outside 0..65534 (R27, D3), which the spec gives no meaning: the model's choice
  (log 18). Raised by the host's write of a byte, and by a load of more than 65535 bytes. Safe: no such byte exists. -/
  | ibufOutOfRange (offset : Nat)
  deriving DecidableEq, Repr

/-- Why a step has no meaning. -/
inductive Refusal
  /-- An instruction whose meaning is not written. Raised by no arm of a finished model. Safe. -/
  | notModelled (mnemonic : String)
  /-- A command while another runs, "a host error the model gives no move" (30_encoding.md R62, R278). Raised by
  every command with BUSY = 1 and no command pending. Safe: no behaviour is claimed. -/
  | commandWhileBusy
  /-- A host write while a command runs or is pending (70_reset_and_hazards.md R278, U9). Raised by the host's
  writes. Safe: no behaviour is claimed. -/
  | hostWhileBusy
  /-- A record, padding, stuffing, unstuffing or entry symbol in a state that is not in the walk the symbol belongs
  to; no rule reads such a symbol there (R160, R120, R122, R202). Raised by the symbol instructions. Safe. -/
  | outsideWalk
  /-- The fetched bytes open no instruction. Raised by the step; no state meets it. Safe. -/
  | undecodable (e : Space)
  deriving DecidableEq, Repr

end Sys2Proof.Machine
end

