-- ==== Sys2Proof/Machine/Flags.lean ====
section
/-! DEFINITION. The STATUS flags (10_state.md R22, R23) and the codes of stages, reasons and warnings (R21,
60_exceptions.md R231, R232, R233). -/

namespace Sys2Proof.Machine

/-- STATUS when a command starts: every flag 0 but BUSY (R22). -/
def Status.started : Status := { busy := true }

/-- STATUS when a command ends with success: DONE and OK (R22). -/
def Status.endOk (f : Status) : Status := { f with busy := false, done := true, ok := true }

/-- STATUS when a command is aborted (60_exceptions.md R240). -/
def Status.endFatal (f : Status) : Status :=
  { f with busy := false, done := true, ok := false, fatal := true, frameOk := false, crcOk := false }

/-- STATUS when the code selects no command: CMD_ERR and DONE (30_encoding.md R62). -/
def Status.endCmdErr (f : Status) : Status := { f with busy := false, done := true, cmdErr := true }

/-- STATUS on entry to `payload_parse`: FRAME_OK and CRC_OK (43_decode_pipeline.md R147). -/
def Status.payloadReached (f : Status) : Status := { f with frameOk := true, crcOk := true }

/-- STATUS once the device id is known (43_decode_pipeline.md R141). -/
def Status.withDevid (f : Status) : Status := { f with devidValid := true }

/-- How many of OK, FATAL, CMD_ERR are 1 (R22). -/
def Status.ends (f : Status) : Nat := f.ok.toNat + f.fatal.toNat + f.cmdErr.toNat

/-- The code of a stage (R21). -/
def Stage.code : Stage → Nat
  | .none => 0
  | .frame => 1
  | .unstuff => 2
  | .imei => 3
  | .xtea => 4
  | .keyLookup => 5
  | .crc => 6
  | .payloadParse => 7

/-- The code of a fatal reason (R231). -/
def FatalReason.code : FatalReason → Nat
  | .none => 0
  | .tooShort => 1
  | .invalidBoundaries => 2
  | .danglingEscapeByte => 3
  | .invalidEscapeSequence => 4
  | .bodyTooShort => 5
  | .invalidImeiBytesLength => 6
  | .invalidCiphertextLength => 7
  | .missingKeyForImei => 8
  | .invalidKeyLength => 9
  | .decryptFailed => 10
  | .plaintextTooShort => 11
  | .crcMismatch => 12
  | .cipherFailed => 13

/-- The stage tag a fatal reason carries (R231; for `body_too_short` 90_conflicts.md C1, for the key errors C2). -/
def FatalReason.stage : FatalReason → Stage
  | .none => .none
  | .tooShort => .frame
  | .invalidBoundaries => .frame
  | .danglingEscapeByte => .unstuff
  | .invalidEscapeSequence => .unstuff
  | .bodyTooShort => .frame
  | .invalidImeiBytesLength => .imei
  | .invalidCiphertextLength => .xtea
  | .missingKeyForImei => .keyLookup
  | .invalidKeyLength => .keyLookup
  | .decryptFailed => .xtea
  | .plaintextTooShort => .crc
  | .crcMismatch => .crc
  | .cipherFailed => .xtea

/-- The code of a cause (R231, row 10). -/
def Cause.code : Cause → Nat
  | .roundsNotPositive => 1
  | .badLength => 2

/-- The detail mapping, names to numbers (R26, R231). -/
def Detail.mapping : Detail → List (String × Nat)
  | .empty => []
  | .length n => [("length", n)]
  | .boundaries f l => [("first", f.toNat), ("last", l.toNat)]
  | .offset n => [("offset", n)]
  | .escape n b => [("offset", n), ("byte", b.toNat)]
  | .cause c => [("cause", c.code)]
  | .crc r c => [("received", r.toNat), ("computed", c.toNat)]

/-- The code of a non-fatal reason (R232). -/
def NfReason.code : NfReason → Nat
  | .recordParseFailed => 16
  | .unknownDataId => 17
  | .rtu800ExtendedId => 18
  | .unknownTypeId => 19
  | .eventTypeLenMismatch => 20

/-- The detail mapping of a non-fatal error, names to numbers (R34, R232). -/
def NfDetail.mapping : NfDetail → List (String × Nat)
  | .parse d o n h => [("data_id", d.toNat), ("offset", o), ("need", n), ("have", h)]
  | .dataId d o => [("data_id", d.toNat), ("offset", o)]
  | .typeId t o => [("type_id", t.toNat), ("offset", o)]
  | .typeLen t e a => [("type_id", t.toNat), ("expected", e), ("available", a)]

/-- The code of a warning tag (R233). -/
def WarnTag.code : WarnTag → Nat
  | .payloadParseError => 21
  | .unknownDataId => 17
  | .rtu800ExtendedId => 18
  | .unknownTypeId => 19
  | .eventTypeLenMismatch => 20

/-- The tag of the warning pushed with a non-fatal error (44_payload_decoder.md R183). -/
def NfReason.warnTag : NfReason → WarnTag
  | .recordParseFailed => .payloadParseError
  | .unknownDataId => .unknownDataId
  | .rtu800ExtendedId => .rtu800ExtendedId
  | .unknownTypeId => .unknownTypeId
  | .eventTypeLenMismatch => .eventTypeLenMismatch

/-- The data id of a record (R30). -/
def Record.id : Record → Byte
  | .configCommand _ _ _ => 1
  | .configResponse _ _ => 2
  | .archive _ _ => 3
  | .archiveAck _ => 4
  | .readCommand _ _ _ => 6
  | .readResponse _ _ _ _ => 7
  | .auth _ => 8
  | .telemetry _ _ => 9
  | .rtu800Extended id _ => id
  | .unknown id _ => id

end Sys2Proof.Machine
end

