-- ==== Sys2Proof/Machine/Operands.lean ====
section
/-! DEFINITION. Operand assembly: little-endian numbers (00_scope.md R7, 20_memory.md R42), slices of byte sequences
(R6), the read of IBUF (R41), the checked reads of the payload decoder (44_payload_decoder.md R162), the decimal
device-id string (10_state.md R24). -/

namespace Sys2Proof.Machine

/-- The number whose little-endian bytes are `bs` (R7). -/
def leNat : List Byte → Nat
  | [] => 0
  | b :: bs => b.toNat + 256 * leNat bs

/-- `LE16` (R7). -/
def LE16 (bs : List Byte) : BitVec 16 := BitVec.ofNat 16 (leNat bs)

/-- `LE32` (R7). -/
def LE32 (bs : List Byte) : Word := BitVec.ofNat 32 (leNat bs)

/-- `LE64` (R7). -/
def LE64 (bs : List Byte) : BitVec 64 := BitVec.ofNat 64 (leNat bs)

/-- The `n` bytes of `v`, least significant first (R7). -/
def leBytes : Nat → Nat → List Byte
  | 0, _ => []
  | n + 1, v => BitVec.ofNat 8 v :: leBytes n (v / 256)

/-- `le16` (R7). -/
def le16 (v : BitVec 16) : List Byte := leBytes 2 v.toNat

/-- `le32` (R7). -/
def le32 (v : Word) : List Byte := leBytes 4 v.toNat

/-- `le64` (R7). -/
def le64 (v : BitVec 64) : List Byte := leBytes 8 v.toNat

/-- `B[a..b)` (R6). -/
def slice (bs : List Byte) (a b : Nat) : List Byte := (bs.take b).drop a

/-- `zeros(n)` (R6). -/
def zeros (n : Nat) : List Byte := List.replicate n 0

/-- The ASCII digit of `n mod 10`. -/
def digit (n : Nat) : Byte := BitVec.ofNat 8 (48 + n % 10)

/-- The decimal digits of `n`, most significant first, no leading zeros; at most `fuel` of them. -/
def decDigits : Nat → Nat → List Byte
  | 0, _ => []
  | fuel + 1, n => if n < 10 then [digit n] else decDigits fuel (n / 10) ++ [digit n]

/-- `dec(DEVID)`, the device id's decimal string in ASCII (R24): 1 to 20 digits. -/
def decString (devid : BitVec 64) : List Byte := decDigits 20 devid.toNat

/-- The byte at offset `a` of a buffer, if it has been written. -/
def memRead : List Host.Cell → Nat → Option Byte
  | [], _ => none
  | (b, v) :: rest, a => if a = b then some v else memRead rest a

/-- The `n` bytes from offset `a` on, or the first offset among them that has not been written. -/
def memReadN (m : List Host.Cell) : Nat → Nat → Except Nat (List Byte)
  | _, 0 => .ok []
  | a, n + 1 =>
    match memRead m a with
    | none => .error a
    | some v =>
      match memReadN m (a + 1) n with
      | .ok vs => .ok (v :: vs)
      | .error e => .error e

/-- `IBUF[0..ILEN)`, the operand every command reads (R41). -/
def readInput (s : State) : Except Nat (List Byte) := memReadN s.ibuf 0 s.ilen.toNat

/-- `rounds`, the signed reading of ROUNDS (R16). -/
def roundsOf (s : State) : Int := s.rounds.toInt

/-- What the payload walk carries: OFF, PAD_LEN, the queues, and whether the walk has stopped (R160). -/
structure ParseCtx where
  off : Nat := 0
  padLen : Nat := 0
  recq : List Record := []
  warnq : List Warning := []
  errq : List NfError := []
  ended : Bool := false
  deriving DecidableEq, Repr

/-- `LocalFail(at, need, have)` (R8, R162). -/
structure LocalFail where
  pos : Nat
  need : Nat
  avail : Nat
  deriving DecidableEq, Repr

/-- What a read, or a chain of reads, of the payload decoder answers: a value, or a local parse failure; the walk's
state goes on in both (R162, R166). -/
inductive Got (α : Type) where
  | got (v : α) (c : ParseCtx)
  | failed (f : LocalFail) (c : ParseCtx)
  deriving Repr

/-- The next read after a read that succeeded. -/
def Got.andThen {α β : Type} (g : Got α) (k : α → ParseCtx → Got β) : Got β :=
  match g with
  | .got v c => k v c
  | .failed f c => .failed f c

/-- `rdN(n)` (R162). -/
def rdN (n : Nat) (P : List Byte) (c : ParseCtx) : Got (List Byte) :=
  if c.off + n > P.length then .failed ⟨c.off, n, P.length - c.off⟩ c
  else .got (slice P c.off (c.off + n)) { c with off := c.off + n }

/-- `rd8()` (R162). -/
def rd8 (P : List Byte) (c : ParseCtx) : Got Byte :=
  (rdN 1 P c).andThen fun v c => .got (v.headD 0) c

/-- `rd32le()` (R162). -/
def rd32le (P : List Byte) (c : ParseCtx) : Got Word :=
  (rdN 4 P c).andThen fun v c => .got (LE32 v) c

/-- The bytes from OFF to the end, and OFF at the end: the unchecked read of the kinds that take the rest (R162). -/
def rdRest (P : List Byte) (c : ParseCtx) : Got (List Byte) :=
  .got (P.drop c.off) { c with off := P.length }

end Sys2Proof.Machine
end

