-- ==== Sys2Proof/Machine/Ops.lean ====
section
/-! DEFINITION. The named operations on the state: writing the input buffer, starting a command (10_state.md R11),
ending it, the fatal error (60_exceptions.md R240) and the way out of it (R245), and the frames every command and
every symbol instruction is written in. -/

namespace Sys2Proof.Machine

/-- What an instruction answers. -/
abbrev Out := Host.Outcome State Fault Refusal

/-! ### The input buffer -/

/-- Writes `v` at offset `a`, keeping the offsets rising. -/
def memWrite : List Host.Cell → Nat → Byte → List Host.Cell
  | [], a, v => [(a, v)]
  | (b, w) :: rest, a, v =>
    if a < b then (a, v) :: (b, w) :: rest
    else if a = b then (a, v) :: rest
    else (b, w) :: memWrite rest a v

/-- Writes the bytes `vs` from offset `a` on. -/
def memWriteN (m : List Host.Cell) : Nat → List Byte → List Host.Cell
  | _, [] => m
  | a, v :: vs => memWriteN (memWrite m a v) (a + 1) vs

/-- Every listed offset is at least `lo`, below `cap`, and the offsets rise strictly. -/
def memRising (cap : Nat) : Nat → List Host.Cell → Bool
  | _, [] => true
  | lo, (a, _) :: rest => decide (lo ≤ a) && decide (a < cap) && memRising cap (a + 1) rest

/-- The canonical form of IBUF: offsets strictly rising and below BUF_CAP (R27). An unlisted offset has no value
(log 4), so no entry can equal what an unlisted offset reads as. -/
def Memory.wf (m : List Host.Cell) : Bool := memRising Config.BUF_CAP 0 m

/-! ### Start and end of a command -/

/-- Start of a command (R11, R22): results, work buffers, STAGE and OFF at their reset values, STATUS with BUSY alone;
ROUNDS, CRC_INIT, KEY, DEVID_IN, IBUF and ILEN stay. It is also the way out of the error state (60_exceptions.md
R245). CRC, V0, V1, S and K have no reset value to go back to (R37) and stay. -/
def startCommand (s : State) : State :=
  { s with
    cmdPending := false
    status := Status.started
    stage := .none
    off := 0
    work := { s.work with body := [], ct := [], pt := [] }
    walk := .idle
    res := {}
    keyRequests := [] }

/-- The host's write of `code` to CMD (R60): it starts the command, so STATUS is BUSY alone and the results are cleared
from here on (R11, R22); the command's rules run in the next step (log 9). -/
def writeCmd (code : Byte) (s : State) : State := { startCommand s with cmd := code, cmdPending := true }

/-- The bytes `bs` in IBUF from offset 0 on, and ILEN their number (R277), for at most BUF_CAP bytes. -/
def storeInput (bs : List Byte) (s : State) : State :=
  { s with ibuf := memWriteN s.ibuf 0 bs, ilen := BitVec.ofNat 16 bs.length }

/-- The working registers and work buffers lose what they held when a command ends (R13, R28, U8): free values
(log 5). -/
def releaseWork (s : State) : State :=
  { s with work := Work.free s.free, free := s.free + 1 }

/-- End of a command with success (R22). -/
def finishOk (s : State) : State :=
  releaseWork { s with status := s.status.endOk, walk := .idle }

/-- `raise Fatal` (60_exceptions.md R240): ERR latched with the device id if it is known, every other result cleared
but DEVID, the command ended. STAGE keeps the position (R21). -/
def raiseFatal (e : FatalError) (s : State) : State :=
  releaseWork
    { s with
      status := s.status.endFatal
      walk := .idle
      res :=
        { devid := s.res.devid
          err :=
            { stage := e.reason.stage
              reason := e.reason
              detail := e.detail
              devidValid := s.status.devidValid
              devid := s.res.devid } } }

/-- End of a command whose code selects none, or that EVPARSE turns away (R62, R206): results stay as the start
cleared them. -/
def endCmdErr (s : State) : State := { s with status := s.status.endCmdErr }

/-! ### Register writes of a running command -/

/-- `STAGE <- st` (R8, R21). -/
def setStage (st : Stage) (s : State) : State := { s with stage := st }

/-- `OBUF <- bs ; OLEN <- len(OBUF)`. -/
def setObuf (bs : List Byte) (s : State) : State :=
  { s with res := { s.res with obuf := bs, olen := BitVec.ofNat 18 bs.length } }

/-- `DEVID <- d ; DEVID_VALID <- 1` (43_decode_pipeline.md R141). -/
def setDevid (d : BitVec 64) (s : State) : State :=
  { s with status := s.status.withDevid, res := { s.res with devid := d } }

/-- `CRC_OUT <- v` (R18). -/
def setCrcOut (v : BitVec 16) (s : State) : State := { s with res := { s.res with crcOut := v } }

/-- `CRC <- v` (R12). -/
def setCrc (v : BitVec 16) (s : State) : State := { s with work := { s.work with crc := v } }

/-- The CipherEngine's registers after a run (R13, R14). -/
def setCipher (c : Cipher) (s : State) : State := { s with work := { s.work with cipher := c } }

/-- `BODY <- bs` (R28). -/
def setBody (bs : List Byte) (s : State) : State := { s with work := { s.work with body := bs } }

/-- `CT <- bs` (R28). -/
def setCt (bs : List Byte) (s : State) : State := { s with work := { s.work with ct := bs } }

/-- `PT <- bs` (R28). -/
def setPt (bs : List Byte) (s : State) : State := { s with work := { s.work with pt := bs } }

/-- FRAME_OK and CRC_OK on entry to `payload_parse` (R147). -/
def markPayload (s : State) : State := { s with status := s.status.payloadReached }

/-- The first entry of a per-device table for a device-id string (43_decode_pipeline.md R143, log 8). -/
def resolve : List (List Byte × List Byte) → List Byte → Option (List Byte)
  | [], _ => none
  | (id, key) :: rest, q => if q = id then some key else resolve rest q

/-- The answer of the key port for a device-id string: the per-device table, else the default (R143). -/
def keyAnswer (s : State) (q : List Byte) : Option (List Byte) := (resolve s.keyTable q).or s.keyDefault

/-- A request on the key port: the string goes out (R143). -/
def requestKey (q : List Byte) (s : State) : State := { s with keyRequests := s.keyRequests ++ [q] }

/-! ### The walks in the state -/

/-- The payload walk's registers and queues. -/
def parseCtx (s : State) : ParseCtx :=
  { off := s.off, padLen := s.res.padLen, recq := s.res.recq, warnq := s.res.warnq, errq := s.res.errq }

/-- Writes the payload walk's registers and queues back. -/
def setParse (c : ParseCtx) (s : State) : State :=
  { s with
    off := c.off
    res := { s.res with padLen := c.padLen, recq := c.recq, warnq := c.warnq, errq := c.errq } }

/-- Moves the walk. -/
def setWalk (w : Walk) (s : State) : State := { s with walk := w }

/-- Writes WARNQ and ERRQ. -/
def setAnomalies (w : List Warning) (e : List NfError) (s : State) : State :=
  { s with res := { s.res with warnq := w, errq := e } }

/-- Writes RECQ. -/
def setRecq (r : List Record) (s : State) : State := { s with res := { s.res with recq := r } }

/-! ### The frames of the instructions -/

/-- No command runs, or the only one is the pending one, of which no rule has run (R60, R62, log 9, 11). -/
def mayStart (s : State) : Bool := !s.status.busy || s.cmdPending

/-- A command (R60, R62, R278): refused while another runs, else run from its start. The start of a pending command is
made at the write of CMD, and making it again changes nothing. -/
def runCommand (body : State → Out) (s : State) : Out :=
  if mayStart s then body (startCommand s) else .refused .commandWhileBusy

/-- A command's body with its operand `IBUF[0..ILEN)` (R41, U3). -/
def withInput (body : List Byte → State → Out) (s : State) : Out :=
  match readInput s with
  | .ok bs => body bs s
  | .error a => .fault (.ibufUnwritten a)

end Sys2Proof.Machine
end

