-- ==== Sys2Proof/Machine/Checksum.lean ====
section
/-! DEFINITION. The Checksum unit (40_crc16.md): the function CRC16 (R91) and the command CRC16 (R92). -/

namespace Sys2Proof.Machine

/-- One of the 8 rounds of R91: the test of bit 15 is made before the shift. -/
def crcShift (r : BitVec 16) : BitVec 16 :=
  if r.getLsbD 15 then (r <<< 1) ^^^ Config.crcPoly else r <<< 1

/-- `n` rounds. -/
def crcShifts : Nat → BitVec 16 → BitVec 16
  | 0, r => r
  | n + 1, r => crcShifts n (crcShift r)

/-- One input byte of R91: into bits 15:8, then 8 rounds. -/
def crcByte (r : BitVec 16) (b : Byte) : BitVec 16 :=
  crcShifts 8 (r ^^^ ((b.setWidth 16) <<< 8))

/-- `CRC16(data, init)` (R91). -/
def crc16 (data : List Byte) (init : BitVec 16) : BitVec 16 := data.foldl crcByte init

/-- Runs the checksum in the register CRC (R12, R91). -/
def runCrc (data : List Byte) (init : BitVec 16) (s : State) : State := setCrc (crc16 data init) s

/-- CRC16 (R92): `CRC_OUT <- CRC16(IBUF[0..ILEN), CRC_INIT)`. -/
def execCrc16 (s : State) : Out :=
  runCommand (withInput fun data s =>
    let s := runCrc data s.crcInit s
    .next (finishOk (setCrcOut s.work.crc s))) s

end Sys2Proof.Machine
end

