-- ==== Sys2Proof/Machine/CipherEngine.lean ====
section
/-! DEFINITION. The CipherEngine (41_xtea.md): XTEA blocks (R102, R103, R104), ECB (R106, R109) and the commands
XTEA_ENC (R107) and XTEA_DEC (R108). -/

namespace Sys2Proof.Machine

/-- `F(x)` (R102). -/
def mixF (x : Word) : Word := ((x <<< 4) ^^^ (x >>> 5)) + x

/-- The key word that bits `lo+1 : lo` of `S` select (R102). -/
def keyWordAt (k : Vector Word 4) (s : Word) (lo : Nat) : Word := k.get (s.extractLsb' lo 2).toFin

/-- `S + K[S & 3]` (R102). -/
def roundKeyLow (c : Cipher) : Word := c.s + keyWordAt c.k c.s 0

/-- `S + K[(S >> 11) & 3]` (R102). -/
def roundKeyHigh (c : Cipher) : Word := c.s + keyWordAt c.k c.s 11

/-- One round of R104. -/
def encRound (c : Cipher) : Cipher :=
  let c := { c with v0 := c.v0 + (mixF c.v1 ^^^ roundKeyLow c) }
  let c := { c with s := c.s + Config.DELTA }
  { c with v1 := c.v1 + (mixF c.v0 ^^^ roundKeyHigh c) }

/-- One round of R103. -/
def decRound (c : Cipher) : Cipher :=
  let c := { c with v1 := c.v1 - (mixF c.v0 ^^^ roundKeyHigh c) }
  let c := { c with s := c.s - Config.DELTA }
  { c with v0 := c.v0 - (mixF c.v1 ^^^ roundKeyLow c) }

/-- `repeat n times`. -/
def repeatRounds (step : Cipher → Cipher) : Nat → Cipher → Cipher
  | 0, c => c
  | n + 1, c => repeatRounds step n (step c)

/-- `XTEA_ENCRYPT_BLOCK` (R104). -/
def encryptBlock (n : Nat) (c : Cipher) : Cipher := repeatRounds encRound n { c with s := 0 }

/-- `XTEA_DECRYPT_BLOCK` (R103). -/
def decryptBlock (n : Nat) (c : Cipher) : Cipher :=
  repeatRounds decRound n { c with s := Config.DELTA * BitVec.ofNat 32 n }

/-- `K[i] <- LE32(key[4i .. 4i+4))` (10_state.md R14). -/
def loadKey (key : List Byte) (c : Cipher) : Cipher :=
  { c with
    k := #v[LE32 (slice key 0 4), LE32 (slice key 4 8), LE32 (slice key 8 12), LE32 (slice key 12 16)] }

/-- Block unpacking (R101). -/
def loadBlock (b : List Byte) (c : Cipher) : Cipher :=
  { c with v0 := LE32 (slice b 0 4), v1 := LE32 (slice b 4 8) }

/-- Block packing (R101). -/
def storeBlock (c : Cipher) : List Byte := le32 c.v0 ++ le32 c.v1

/-- The loop of R109 over `n` blocks: the output, and the registers after the last block. -/
def ecbBlocks (blockFn : Cipher → Cipher) : Nat → List Byte → Cipher → List Byte × Cipher
  | 0, _, c => ([], c)
  | n + 1, bs, c =>
    let c := blockFn (loadBlock (bs.take Config.BLOCK) c)
    let rest := ecbBlocks blockFn n (bs.drop Config.BLOCK) c
    (storeBlock c ++ rest.1, rest.2)

/-- `ECB(X, key, rounds, BLOCKFN)` (R109), with the registers it leaves. -/
def ecb (blockFn : Cipher → Cipher) (bs key : List Byte) (c : Cipher) : List Byte × Cipher :=
  ecbBlocks blockFn (bs.length / Config.BLOCK) bs (loadKey key c)

/-- Admission of a cipher run (R106): the round count first, then the length. -/
def admission (rounds : Int) (bs : List Byte) : Option Cause :=
  if rounds ≤ 0 then some .roundsNotPositive
  else if bs.length = 0 ∨ bs.length % Config.BLOCK ≠ 0 then some .badLength
  else none

/-- A cipher run in the registers V0, V1, S, K (R106, R109): its output, or the cause of its failure. -/
def cipherRun (blockFn : Nat → Cipher → Cipher) (bs key : List Byte) (s : State) : Except Cause (List Byte × State) :=
  match admission (roundsOf s) bs with
  | some c => .error c
  | none =>
    let r := ecb (blockFn (roundsOf s).toNat) bs key s.work.cipher
    .ok (r.1, setCipher r.2 s)

/-- XTEA_ENC (R107): `OBUF <- ECB(X, KEY, rounds, XTEA_ENCRYPT_BLOCK)`. -/
def execXteaEnc (s : State) : Out :=
  runCommand (withInput fun bs s =>
    match cipherRun encryptBlock bs s.key.toList s with
    | .error c => .next (raiseFatal ⟨.cipherFailed, .cause c⟩ s)
    | .ok (y, s) => .next (finishOk (setObuf y s))) s

/-- XTEA_DEC (R108): `OBUF <- ECB(X, KEY, rounds, XTEA_DECRYPT_BLOCK)`. -/
def execXteaDec (s : State) : Out :=
  runCommand (withInput fun bs s =>
    match cipherRun decryptBlock bs s.key.toList s with
    | .error c => .next (raiseFatal ⟨.cipherFailed, .cause c⟩ s)
    | .ok (y, s) => .next (finishOk (setObuf y s))) s

end Sys2Proof.Machine
end

