-- ==== Sys2Proof/Machine/Framer.lean ====
section
/-! DEFINITION. The Framer (42_framer.md): the symbols of `stuff` (R120) and `unstuff` (R122), the two functions, the
commands STUFF (R121) and UNSTUFF (R123), and each symbol as an instruction of a scan in progress (log 2). -/

namespace Sys2Proof.Machine

/-! ### The symbols of `stuff` -/

/-- STUFF_C0 (R64, R120): what 0xC0 is replaced by. -/
def ruleStuffC0 : List Byte := [Config.ESC, Config.codeC0]

/-- STUFF_C2 (R64, R120): what 0xC2 is replaced by. -/
def ruleStuffC2 : List Byte := [Config.ESC, Config.codeC2]

/-- STUFF_C4 (R64, R120): what 0xC4 is replaced by. -/
def ruleStuffC4 : List Byte := [Config.ESC, Config.codeC4]

/-- STUFF_LIT_00_7F (R120): the byte itself. -/
def ruleStuffLit00_7F (b : Byte) : List Byte := [b]

/-- STUFF_LIT_80_BF (R120): the byte itself. -/
def ruleStuffLit80_BF (b : Byte) : List Byte := [b]

/-- STUFF_LIT_C1_C1 (R120): the byte itself. -/
def ruleStuffLitC1_C1 : List Byte := [0xC1]

/-- STUFF_LIT_C3_C3 (R120): the byte itself. -/
def ruleStuffLitC3_C3 : List Byte := [0xC3]

/-- STUFF_LIT_C5_C5 (R120): the byte itself. -/
def ruleStuffLitC5_C5 : List Byte := [0xC5]

/-- STUFF_LIT_C6_C7 (R120): the byte itself. -/
def ruleStuffLitC6_C7 (b : Byte) : List Byte := [b]

/-- STUFF_LIT_C8_CF (R120): the byte itself. -/
def ruleStuffLitC8_CF (b : Byte) : List Byte := [b]

/-- STUFF_LIT_D0_DF (R120): the byte itself. -/
def ruleStuffLitD0_DF (b : Byte) : List Byte := [b]

/-- STUFF_LIT_E0_FF (R120): the byte itself. -/
def ruleStuffLitE0_FF (b : Byte) : List Byte := [b]

/-- What a symbol of `stuff` appends to the output; `none` for an instruction that is no such symbol. -/
def stuffRule : Instr → Option (List Byte)
  | .stuffC0 => some ruleStuffC0
  | .stuffC2 => some ruleStuffC2
  | .stuffC4 => some ruleStuffC4
  | .stuffLit00_7F b => some (ruleStuffLit00_7F b)
  | .stuffLit80_BF b => some (ruleStuffLit80_BF b)
  | .stuffLitC1_C1 => some ruleStuffLitC1_C1
  | .stuffLitC3_C3 => some ruleStuffLitC3_C3
  | .stuffLitC5_C5 => some ruleStuffLitC5_C5
  | .stuffLitC6_C7 b => some (ruleStuffLitC6_C7 b)
  | .stuffLitC8_CF b => some (ruleStuffLitC8_CF b)
  | .stuffLitD0_DF b => some (ruleStuffLitD0_DF b)
  | .stuffLitE0_FF b => some (ruleStuffLitE0_FF b)
  | _ => none

/-- What `stuff` appends for one input byte (R120). -/
def stuffByte (b : Byte) : List Byte :=
  match decode .stuffIn [b] with
  | .ok i => (stuffRule i).getD []
  | .error _ => []

/-- `stuff(raw)` (R120). -/
def stuff (raw : List Byte) : List Byte := raw.flatMap stuffByte

/-! ### The symbols of `unstuff` -/

/-- What a symbol of `unstuff` does (R122): append to the output and move on, or raise a fatal error. -/
inductive Symbol
  | emit (out : List Byte) (width : Nat)
  | bad (e : FatalError)
  deriving DecidableEq, Repr

/-- The legal pair 0xC4, `code` of the decoding table (R64) that gives back `b`. -/
def unescape (b : Byte) : Symbol := .emit [b] 2

/-- `raise Fatal(unstuff, invalid_escape_sequence, {offset: i, byte: n})` (R122). -/
def invalidEscape (n : Byte) (i : Nat) : Symbol := .bad ⟨.invalidEscapeSequence, .escape i n⟩

/-- UNSTUFF_LIT_00_7F (R122, R125): the byte itself. -/
def ruleUnstuffLit00_7F (b : Byte) : Symbol := .emit [b] 1

/-- UNSTUFF_LIT_80_BF (R122, R125): the byte itself. -/
def ruleUnstuffLit80_BF (b : Byte) : Symbol := .emit [b] 1

/-- UNSTUFF_LIT_C0_C3 (R122, R125): the byte itself. -/
def ruleUnstuffLitC0_C3 (b : Byte) : Symbol := .emit [b] 1

/-- UNSTUFF_LIT_C5_C5 (R122): the byte itself. -/
def ruleUnstuffLitC5_C5 : Symbol := .emit [0xC5] 1

/-- UNSTUFF_LIT_C6_C7 (R122, R125): the byte itself. -/
def ruleUnstuffLitC6_C7 (b : Byte) : Symbol := .emit [b] 1

/-- UNSTUFF_LIT_C8_CF (R122, R125): the byte itself. -/
def ruleUnstuffLitC8_CF (b : Byte) : Symbol := .emit [b] 1

/-- UNSTUFF_LIT_D0_DF (R122, R125): the byte itself. -/
def ruleUnstuffLitD0_DF (b : Byte) : Symbol := .emit [b] 1

/-- UNSTUFF_LIT_E0_FF (R122, R125): the byte itself. -/
def ruleUnstuffLitE0_FF (b : Byte) : Symbol := .emit [b] 1

/-- UNSTUFF_ESC_C1 (R64, R122). -/
def ruleUnstuffEscC1 : Symbol := unescape Config.START

/-- UNSTUFF_ESC_C3 (R64, R122). -/
def ruleUnstuffEscC3 : Symbol := unescape Config.END

/-- UNSTUFF_ESC_C4 (R64, R122). -/
def ruleUnstuffEscC4 : Symbol := unescape Config.ESC

/-- UNSTUFF_BAD_ESC_00_7F (R122). -/
def ruleUnstuffBadEsc00_7F (n : Byte) (i : Nat) : Symbol := invalidEscape n i

/-- UNSTUFF_BAD_ESC_80_BF (R122). -/
def ruleUnstuffBadEsc80_BF (n : Byte) (i : Nat) : Symbol := invalidEscape n i

/-- UNSTUFF_BAD_ESC_C0_C0 (R122). -/
def ruleUnstuffBadEscC0_C0 (i : Nat) : Symbol := invalidEscape 0xC0 i

/-- UNSTUFF_BAD_ESC_C2_C2 (R122). -/
def ruleUnstuffBadEscC2_C2 (i : Nat) : Symbol := invalidEscape 0xC2 i

/-- UNSTUFF_BAD_ESC_C5_C5 (R122). -/
def ruleUnstuffBadEscC5_C5 (i : Nat) : Symbol := invalidEscape 0xC5 i

/-- UNSTUFF_BAD_ESC_C6_C7 (R122). -/
def ruleUnstuffBadEscC6_C7 (n : Byte) (i : Nat) : Symbol := invalidEscape n i

/-- UNSTUFF_BAD_ESC_C8_CF (R122). -/
def ruleUnstuffBadEscC8_CF (n : Byte) (i : Nat) : Symbol := invalidEscape n i

/-- UNSTUFF_BAD_ESC_D0_DF (R122). -/
def ruleUnstuffBadEscD0_DF (n : Byte) (i : Nat) : Symbol := invalidEscape n i

/-- UNSTUFF_BAD_ESC_E0_FF (R122). -/
def ruleUnstuffBadEscE0_FF (n : Byte) (i : Nat) : Symbol := invalidEscape n i

/-- UNSTUFF_DANGLING (R122): `raise Fatal(unstuff, dangling_escape_byte, {offset: i})`. -/
def ruleUnstuffDangling (i : Nat) : Symbol := .bad ⟨.danglingEscapeByte, .offset i⟩

/-- What a symbol of `unstuff` at index `i` does; `none` for an instruction that is no such symbol. -/
def unstuffRule (ins : Instr) (i : Nat) : Option Symbol :=
  match ins with
  | .unstuffLit00_7F b => some (ruleUnstuffLit00_7F b)
  | .unstuffLit80_BF b => some (ruleUnstuffLit80_BF b)
  | .unstuffLitC0_C3 b => some (ruleUnstuffLitC0_C3 b)
  | .unstuffLitC5_C5 => some ruleUnstuffLitC5_C5
  | .unstuffLitC6_C7 b => some (ruleUnstuffLitC6_C7 b)
  | .unstuffLitC8_CF b => some (ruleUnstuffLitC8_CF b)
  | .unstuffLitD0_DF b => some (ruleUnstuffLitD0_DF b)
  | .unstuffLitE0_FF b => some (ruleUnstuffLitE0_FF b)
  | .unstuffEscC1 => some ruleUnstuffEscC1
  | .unstuffEscC3 => some ruleUnstuffEscC3
  | .unstuffEscC4 => some ruleUnstuffEscC4
  | .unstuffBadEsc00_7F n => some (ruleUnstuffBadEsc00_7F n i)
  | .unstuffBadEsc80_BF n => some (ruleUnstuffBadEsc80_BF n i)
  | .unstuffBadEscC0_C0 => some (ruleUnstuffBadEscC0_C0 i)
  | .unstuffBadEscC2_C2 => some (ruleUnstuffBadEscC2_C2 i)
  | .unstuffBadEscC5_C5 => some (ruleUnstuffBadEscC5_C5 i)
  | .unstuffBadEscC6_C7 n => some (ruleUnstuffBadEscC6_C7 n i)
  | .unstuffBadEscC8_CF n => some (ruleUnstuffBadEscC8_CF n i)
  | .unstuffBadEscD0_DF n => some (ruleUnstuffBadEscD0_DF n i)
  | .unstuffBadEscE0_FF n => some (ruleUnstuffBadEscE0_FF n i)
  | .unstuffDangling => some (ruleUnstuffDangling i)
  | _ => none

/-- The scan of R122 over the bytes `rest`, which begin at index `i`; `fuel` is at least their number. -/
def unstuffFrom : Nat → List Byte → Nat → Except FatalError (List Byte)
  | 0, _, _ => .ok []
  | fuel + 1, rest, i =>
    match decode .unstuffIn rest with
    | .error _ => .ok []
    | .ok ins =>
      match unstuffRule ins i with
      | none => .ok []
      | some (.bad e) => .error e
      | some (.emit out width) =>
        match unstuffFrom fuel (rest.drop width) (i + width) with
        | .error e => .error e
        | .ok more => .ok (out ++ more)

/-- `unstuff(stuffed)` (R122). -/
def unstuff (stuffed : List Byte) : Except FatalError (List Byte) :=
  unstuffFrom stuffed.length stuffed 0

/-! ### The commands -/

/-- STUFF (R121): `OBUF <- stuff(IBUF[0..ILEN))`. -/
def execStuff (s : State) : Out :=
  runCommand (withInput fun raw s => .next (finishOk (setObuf (stuff raw) s))) s

/-- UNSTUFF (R123): `OBUF <- unstuff(IBUF[0..ILEN))`. -/
def execUnstuff (s : State) : Out :=
  runCommand (withInput fun bs s =>
    match unstuff bs with
    | .error e => .next (raiseFatal e s)
    | .ok out => .next (finishOk (setObuf out s))) s

/-! ### Scans in progress -/

/-- The state inside STUFF with the scan of `raw` about to read its first byte (log 2). -/
def beginStuff (raw : List Byte) (s : State) : State := setWalk (.stuffing ⟨raw, 0, []⟩) (startCommand s)

/-- The state inside UNSTUFF with the scan of `bs` about to read its first byte (log 2). -/
def beginUnstuff (bs : List Byte) (s : State) : State := setWalk (.unstuffing ⟨bs, 0, []⟩) (startCommand s)

/-- The scan after a symbol of `width` bytes that appends `out`. -/
def Scan.emit (sc : Scan) (out : List Byte) (width : Nat) : Scan :=
  { sc with i := sc.i + width, out := sc.out ++ out }

/-- A symbol of `stuff` as an instruction. -/
def stuffStep (out : List Byte) (s : State) : Out :=
  match s.walk with
  | .stuffing sc => .next (setWalk (.stuffing (sc.emit out 1)) s)
  | _ => .refused .outsideWalk

/-- A symbol of `unstuff` as an instruction; `sym` is given the index of its first byte. -/
def unstuffStep (sym : Nat → Symbol) (s : State) : Out :=
  match s.walk with
  | .unstuffing sc =>
    match sym sc.i with
    | .emit out width => .next (setWalk (.unstuffing (sc.emit out width)) s)
    | .bad e => .next (raiseFatal e s)
  | _ => .refused .outsideWalk

/-- STUFF_C0 (R120). -/
def execStuffC0 (s : State) : Out := stuffStep ruleStuffC0 s

/-- STUFF_C2 (R120). -/
def execStuffC2 (s : State) : Out := stuffStep ruleStuffC2 s

/-- STUFF_C4 (R120). -/
def execStuffC4 (s : State) : Out := stuffStep ruleStuffC4 s

/-- STUFF_LIT_00_7F (R120). -/
def execStuffLit00_7F (b : Byte) (s : State) : Out := stuffStep (ruleStuffLit00_7F b) s

/-- STUFF_LIT_80_BF (R120). -/
def execStuffLit80_BF (b : Byte) (s : State) : Out := stuffStep (ruleStuffLit80_BF b) s

/-- STUFF_LIT_C1_C1 (R120). -/
def execStuffLitC1_C1 (s : State) : Out := stuffStep ruleStuffLitC1_C1 s

/-- STUFF_LIT_C3_C3 (R120). -/
def execStuffLitC3_C3 (s : State) : Out := stuffStep ruleStuffLitC3_C3 s

/-- STUFF_LIT_C5_C5 (R120). -/
def execStuffLitC5_C5 (s : State) : Out := stuffStep ruleStuffLitC5_C5 s

/-- STUFF_LIT_C6_C7 (R120). -/
def execStuffLitC6_C7 (b : Byte) (s : State) : Out := stuffStep (ruleStuffLitC6_C7 b) s

/-- STUFF_LIT_C8_CF (R120). -/
def execStuffLitC8_CF (b : Byte) (s : State) : Out := stuffStep (ruleStuffLitC8_CF b) s

/-- STUFF_LIT_D0_DF (R120). -/
def execStuffLitD0_DF (b : Byte) (s : State) : Out := stuffStep (ruleStuffLitD0_DF b) s

/-- STUFF_LIT_E0_FF (R120). -/
def execStuffLitE0_FF (b : Byte) (s : State) : Out := stuffStep (ruleStuffLitE0_FF b) s

/-- UNSTUFF_LIT_00_7F (R122). -/
def execUnstuffLit00_7F (b : Byte) (s : State) : Out := unstuffStep (fun _ => ruleUnstuffLit00_7F b) s

/-- UNSTUFF_LIT_80_BF (R122). -/
def execUnstuffLit80_BF (b : Byte) (s : State) : Out := unstuffStep (fun _ => ruleUnstuffLit80_BF b) s

/-- UNSTUFF_LIT_C0_C3 (R122). -/
def execUnstuffLitC0_C3 (b : Byte) (s : State) : Out := unstuffStep (fun _ => ruleUnstuffLitC0_C3 b) s

/-- UNSTUFF_LIT_C5_C5 (R122). -/
def execUnstuffLitC5_C5 (s : State) : Out := unstuffStep (fun _ => ruleUnstuffLitC5_C5) s

/-- UNSTUFF_LIT_C6_C7 (R122). -/
def execUnstuffLitC6_C7 (b : Byte) (s : State) : Out := unstuffStep (fun _ => ruleUnstuffLitC6_C7 b) s

/-- UNSTUFF_LIT_C8_CF (R122). -/
def execUnstuffLitC8_CF (b : Byte) (s : State) : Out := unstuffStep (fun _ => ruleUnstuffLitC8_CF b) s

/-- UNSTUFF_LIT_D0_DF (R122). -/
def execUnstuffLitD0_DF (b : Byte) (s : State) : Out := unstuffStep (fun _ => ruleUnstuffLitD0_DF b) s

/-- UNSTUFF_LIT_E0_FF (R122). -/
def execUnstuffLitE0_FF (b : Byte) (s : State) : Out := unstuffStep (fun _ => ruleUnstuffLitE0_FF b) s

/-- UNSTUFF_ESC_C1 (R122). -/
def execUnstuffEscC1 (s : State) : Out := unstuffStep (fun _ => ruleUnstuffEscC1) s

/-- UNSTUFF_ESC_C3 (R122). -/
def execUnstuffEscC3 (s : State) : Out := unstuffStep (fun _ => ruleUnstuffEscC3) s

/-- UNSTUFF_ESC_C4 (R122). -/
def execUnstuffEscC4 (s : State) : Out := unstuffStep (fun _ => ruleUnstuffEscC4) s

/-- UNSTUFF_BAD_ESC_00_7F (R122). -/
def execUnstuffBadEsc00_7F (n : Byte) (s : State) : Out := unstuffStep (ruleUnstuffBadEsc00_7F n) s

/-- UNSTUFF_BAD_ESC_80_BF (R122). -/
def execUnstuffBadEsc80_BF (n : Byte) (s : State) : Out := unstuffStep (ruleUnstuffBadEsc80_BF n) s

/-- UNSTUFF_BAD_ESC_C0_C0 (R122). -/
def execUnstuffBadEscC0_C0 (s : State) : Out := unstuffStep ruleUnstuffBadEscC0_C0 s

/-- UNSTUFF_BAD_ESC_C2_C2 (R122). -/
def execUnstuffBadEscC2_C2 (s : State) : Out := unstuffStep ruleUnstuffBadEscC2_C2 s

/-- UNSTUFF_BAD_ESC_C5_C5 (R122). -/
def execUnstuffBadEscC5_C5 (s : State) : Out := unstuffStep ruleUnstuffBadEscC5_C5 s

/-- UNSTUFF_BAD_ESC_C6_C7 (R122). -/
def execUnstuffBadEscC6_C7 (n : Byte) (s : State) : Out := unstuffStep (ruleUnstuffBadEscC6_C7 n) s

/-- UNSTUFF_BAD_ESC_C8_CF (R122). -/
def execUnstuffBadEscC8_CF (n : Byte) (s : State) : Out := unstuffStep (ruleUnstuffBadEscC8_CF n) s

/-- UNSTUFF_BAD_ESC_D0_DF (R122). -/
def execUnstuffBadEscD0_DF (n : Byte) (s : State) : Out := unstuffStep (ruleUnstuffBadEscD0_DF n) s

/-- UNSTUFF_BAD_ESC_E0_FF (R122). -/
def execUnstuffBadEscE0_FF (n : Byte) (s : State) : Out := unstuffStep (ruleUnstuffBadEscE0_FF n) s

/-- UNSTUFF_DANGLING (R122). -/
def execUnstuffDangling (s : State) : Out := unstuffStep ruleUnstuffDangling s

end Sys2Proof.Machine
end

