-- ==== Sys2Proof/Machine/Events.lean ====
section
/-! DEFINITION. The EventDataParser (45_event_parser.md): the rule of each entry type (R202, R203, R204), the parser
(R202), the command EVPARSE (R206), and each entry as an instruction of a walk in progress (log 2). -/

namespace Sys2Proof.Machine

/-- What the entry walk carries: its cursor `p`, the entries so far, the queues, and whether it has stopped (R202). -/
structure EntryCtx where
  p : Nat := 0
  entries : List EventEntry := []
  warnq : List Warning := []
  errq : List NfError := []
  ended : Bool := false
  deriving DecidableEq, Repr

/-- Pushes a warning and the non-fatal error that goes with it; the stage is always `payload_parse` (R34, R183). -/
def EntryCtx.anomaly (c : EntryCtx) (r : NfReason) (arg : Byte) (d : NfDetail) : EntryCtx :=
  { c with
    warnq := c.warnq ++ [⟨r.warnTag, some arg⟩]
    errq := c.errq ++ [⟨.payloadParse, r, d⟩] }

/-- `unknown_type(t, p)` (R203); `p` is already past the type id. -/
def unknownType (t : Byte) (d : List Byte) (c : EntryCtx) : EntryCtx :=
  { c.anomaly .unknownTypeId t (.typeId t (c.p - 1)) with
    entries := c.entries ++ [⟨t, .unknown, d.drop c.p⟩]
    ended := true }

/-- `len_mismatch(t, L, p)` (R204). -/
def lenMismatch (t : Byte) (L : Nat) (d : List Byte) (c : EntryCtx) : EntryCtx :=
  { c.anomaly .eventTypeLenMismatch t (.typeLen t L (d.length - c.p)) with
    entries := c.entries ++ [⟨t, .lenMismatch, d.drop c.p⟩]
    ended := true }

/-- The body of R202's loop for the type id `t` at the cursor, whose EVT_LEN entry is `len`. -/
def readEntry (t : Byte) (len : Option Config.EvtLen) (d : List Byte) (c : EntryCtx) : EntryCtx :=
  let c := { c with p := c.p + 1 }
  match len with
  | none => unknownType t d c
  | some l =>
    if c.p + l.toNat > d.length then lenMismatch t l.toNat d c
    else
      { c with
        entries := c.entries ++ [⟨t, .value, slice d c.p (c.p + l.toNat)⟩]
        p := c.p + l.toNat }

/-! ### The rule of each entry type -/

/-- ENTRY_TYPE_0 (R201 3, R202): `EVT_LEN(0) = 4`. -/
def ruleEntryType0 (d : List Byte) (c : EntryCtx) : EntryCtx := readEntry 0x00 (some .four) d c

/-- ENTRY_TYPE_20 (R201 3, R202): `EVT_LEN(20) = 1`. -/
def ruleEntryType20 (d : List Byte) (c : EntryCtx) : EntryCtx := readEntry 0x14 (some .one) d c

/-- ENTRY_TYPE_OTHER_01_01 (R201, R202). -/
def ruleEntryTypeOther01_01 (par : Config.Params) (d : List Byte) (c : EntryCtx) : EntryCtx :=
  readEntry 0x01 (par.evtLen 0x01) d c

/-- ENTRY_TYPE_OTHER_02_03 (R201, R202). -/
def ruleEntryTypeOther02_03 (par : Config.Params) (t : Byte) (d : List Byte) (c : EntryCtx) : EntryCtx :=
  readEntry t (par.evtLen t) d c

/-- ENTRY_TYPE_OTHER_04_07 (R201, R202). -/
def ruleEntryTypeOther04_07 (par : Config.Params) (t : Byte) (d : List Byte) (c : EntryCtx) : EntryCtx :=
  readEntry t (par.evtLen t) d c

/-- ENTRY_TYPE_OTHER_08_0F (R201, R202). -/
def ruleEntryTypeOther08_0F (par : Config.Params) (t : Byte) (d : List Byte) (c : EntryCtx) : EntryCtx :=
  readEntry t (par.evtLen t) d c

/-- ENTRY_TYPE_OTHER_10_13 (R201, R202). -/
def ruleEntryTypeOther10_13 (par : Config.Params) (t : Byte) (d : List Byte) (c : EntryCtx) : EntryCtx :=
  readEntry t (par.evtLen t) d c

/-- ENTRY_TYPE_OTHER_15_15 (R201, R202). -/
def ruleEntryTypeOther15_15 (par : Config.Params) (d : List Byte) (c : EntryCtx) : EntryCtx :=
  readEntry 0x15 (par.evtLen 0x15) d c

/-- ENTRY_TYPE_OTHER_16_17 (R201, R202). -/
def ruleEntryTypeOther16_17 (par : Config.Params) (t : Byte) (d : List Byte) (c : EntryCtx) : EntryCtx :=
  readEntry t (par.evtLen t) d c

/-- ENTRY_TYPE_OTHER_18_1F (R201, R202). -/
def ruleEntryTypeOther18_1F (par : Config.Params) (t : Byte) (d : List Byte) (c : EntryCtx) : EntryCtx :=
  readEntry t (par.evtLen t) d c

/-- ENTRY_TYPE_OTHER_20_3F (R201, R202). -/
def ruleEntryTypeOther20_3F (par : Config.Params) (t : Byte) (d : List Byte) (c : EntryCtx) : EntryCtx :=
  readEntry t (par.evtLen t) d c

/-- ENTRY_TYPE_OTHER_40_7F (R201, R202). -/
def ruleEntryTypeOther40_7F (par : Config.Params) (t : Byte) (d : List Byte) (c : EntryCtx) : EntryCtx :=
  readEntry t (par.evtLen t) d c

/-- ENTRY_TYPE_OTHER_80_FF (R201, R202). -/
def ruleEntryTypeOther80_FF (par : Config.Params) (t : Byte) (d : List Byte) (c : EntryCtx) : EntryCtx :=
  readEntry t (par.evtLen t) d c

/-- The rule of an entry; `none` for an instruction that is no entry. -/
def entryRule (par : Config.Params) : Instr → Option (List Byte → EntryCtx → EntryCtx)
  | .entryType0 => some ruleEntryType0
  | .entryType20 => some ruleEntryType20
  | .entryTypeOther01_01 => some (ruleEntryTypeOther01_01 par)
  | .entryTypeOther02_03 t => some (ruleEntryTypeOther02_03 par t)
  | .entryTypeOther04_07 t => some (ruleEntryTypeOther04_07 par t)
  | .entryTypeOther08_0F t => some (ruleEntryTypeOther08_0F par t)
  | .entryTypeOther10_13 t => some (ruleEntryTypeOther10_13 par t)
  | .entryTypeOther15_15 => some (ruleEntryTypeOther15_15 par)
  | .entryTypeOther16_17 t => some (ruleEntryTypeOther16_17 par t)
  | .entryTypeOther18_1F t => some (ruleEntryTypeOther18_1F par t)
  | .entryTypeOther20_3F t => some (ruleEntryTypeOther20_3F par t)
  | .entryTypeOther40_7F t => some (ruleEntryTypeOther40_7F par t)
  | .entryTypeOther80_FF t => some (ruleEntryTypeOther80_FF par t)
  | _ => none

/-- The loop of R202; `fuel` is more than the number of bytes left. -/
def entryLoop (par : Config.Params) : Nat → List Byte → EntryCtx → EntryCtx
  | 0, _, c => c
  | fuel + 1, d, c =>
    if c.ended then c
    else
      match decode .entry (d.drop c.p) with
      | .error _ => c
      | .ok i =>
        match entryRule par i with
        | none => c
        | some rule => entryLoop par fuel d (rule d c)

/-- `EVPARSE(d)` (R202), pushing to the queues `w` and `e`. -/
def parseEntries (par : Config.Params) (d : List Byte) (w : List Warning) (e : List NfError) : EntryCtx :=
  entryLoop par (d.length + 1) d { warnq := w, errq := e }

/-! ### The command -/

/-- The pseudo-record of R206. -/
def evparseRecord (n : Nat) (entries : List EventEntry) : Record :=
  .archive 0 [⟨0, 0, BitVec.ofNat 8 n, entries⟩]

/-- The results of EVPARSE and its end (R206). -/
def finishEvparse (n : Nat) (c : EntryCtx) (s : State) : State :=
  finishOk (setRecq [evparseRecord n c.entries] (setAnomalies c.warnq c.errq s))

/-- The longest event data (R206). -/
def maxEventData : Nat := 255

/-- EVPARSE (R206): CMD_ERR for ILEN > 255, else R202 on `IBUF[0..ILEN)`. -/
def execEvparse (s : State) : Out :=
  runCommand (fun s =>
    if s.ilen.toNat > maxEventData then .next (endCmdErr s)
    else withInput (fun d s => .next (finishEvparse d.length (parseEntries Config.params d [] []) s)) s) s

/-! ### A walk in progress -/

/-- The state inside EVPARSE with the walk of `d` about to read its first type id (log 2). -/
def beginEvparse (d : List Byte) (s : State) : State := setWalk (.entries d 0 []) (startCommand s)

/-- The entry walk's view of the state at the cursor `p`. -/
def entryCtx (p : Nat) (es : List EventEntry) (s : State) : EntryCtx :=
  { p := p, entries := es, warnq := s.res.warnq, errq := s.res.errq }

/-- The state after an entry: EVPARSE ended where the rule has stopped the walk, else the walk moved. -/
def afterEntry (d : List Byte) (c : EntryCtx) (s : State) : State :=
  if c.ended then finishEvparse d.length c s
  else setWalk (.entries d c.p c.entries) (setAnomalies c.warnq c.errq s)

/-- An entry as an instruction. -/
def entryStep (rule : List Byte → EntryCtx → EntryCtx) (s : State) : Out :=
  match s.walk with
  | .entries d p es => .next (afterEntry d (rule d (entryCtx p es s)) s)
  | _ => .refused .outsideWalk

/-- ENTRY_TYPE_0 (R202). -/
def execEntryType0 (s : State) : Out := entryStep ruleEntryType0 s

/-- ENTRY_TYPE_20 (R202). -/
def execEntryType20 (s : State) : Out := entryStep ruleEntryType20 s

/-- ENTRY_TYPE_OTHER_01_01 (R202). -/
def execEntryTypeOther01_01 (s : State) : Out := entryStep (ruleEntryTypeOther01_01 Config.params) s

/-- ENTRY_TYPE_OTHER_02_03 (R202). -/
def execEntryTypeOther02_03 (t : Byte) (s : State) : Out := entryStep (ruleEntryTypeOther02_03 Config.params t) s

/-- ENTRY_TYPE_OTHER_04_07 (R202). -/
def execEntryTypeOther04_07 (t : Byte) (s : State) : Out := entryStep (ruleEntryTypeOther04_07 Config.params t) s

/-- ENTRY_TYPE_OTHER_08_0F (R202). -/
def execEntryTypeOther08_0F (t : Byte) (s : State) : Out := entryStep (ruleEntryTypeOther08_0F Config.params t) s

/-- ENTRY_TYPE_OTHER_10_13 (R202). -/
def execEntryTypeOther10_13 (t : Byte) (s : State) : Out := entryStep (ruleEntryTypeOther10_13 Config.params t) s

/-- ENTRY_TYPE_OTHER_15_15 (R202). -/
def execEntryTypeOther15_15 (s : State) : Out := entryStep (ruleEntryTypeOther15_15 Config.params) s

/-- ENTRY_TYPE_OTHER_16_17 (R202). -/
def execEntryTypeOther16_17 (t : Byte) (s : State) : Out := entryStep (ruleEntryTypeOther16_17 Config.params t) s

/-- ENTRY_TYPE_OTHER_18_1F (R202). -/
def execEntryTypeOther18_1F (t : Byte) (s : State) : Out := entryStep (ruleEntryTypeOther18_1F Config.params t) s

/-- ENTRY_TYPE_OTHER_20_3F (R202). -/
def execEntryTypeOther20_3F (t : Byte) (s : State) : Out := entryStep (ruleEntryTypeOther20_3F Config.params t) s

/-- ENTRY_TYPE_OTHER_40_7F (R202). -/
def execEntryTypeOther40_7F (t : Byte) (s : State) : Out := entryStep (ruleEntryTypeOther40_7F Config.params t) s

/-- ENTRY_TYPE_OTHER_80_FF (R202). -/
def execEntryTypeOther80_FF (t : Byte) (s : State) : Out := entryStep (ruleEntryTypeOther80_FF Config.params t) s

end Sys2Proof.Machine
end

