-- ==== Sys2Proof/Machine/Records.lean ====
section
/-! DEFINITION. The PayloadDecoder (44_payload_decoder.md): the rule of each record kind (R163 to R172), the padding
test (R161), the local failure (R180), the walk and the command PARSE (R160), and each record as an instruction of a
walk in progress (log 2). -/

namespace Sys2Proof.Machine

/-- `push(RECQ, r)`. -/
def ParseCtx.record (c : ParseCtx) (r : Record) : ParseCtx := { c with recq := c.recq ++ [r] }

/-- Pushes a warning and the non-fatal error that goes with it (R34, R183). -/
def ParseCtx.anomaly (c : ParseCtx) (r : NfReason) (arg : Option Byte) (d : NfDetail) : ParseCtx :=
  { c with
    warnq := c.warnq ++ [⟨r.warnTag, arg⟩]
    errq := c.errq ++ [⟨.payloadParse, r, d⟩] }

/-- The "point of failure" of R180: the offset of the failed read, or of the record's tag byte (D14). -/
def failOffset (fp : Config.FailPoint) (tagOff : Nat) (f : LocalFail) : Nat :=
  match fp with
  | .readOffset => f.pos
  | .recordStart => tagOff

/-- `local_failure(id, at, need, have)` (R180); the walk stops. -/
def localFailure (fp : Config.FailPoint) (id : Byte) (tagOff : Nat) (P : List Byte) (f : LocalFail) (c : ParseCtx) :
    ParseCtx :=
  let at' := failOffset fp tagOff f
  let c := c.anomaly .recordParseFailed none (.parse id at' f.need f.avail)
  { c.record (.unknown id (P.drop at')) with off := P.length, ended := true }

/-- The dispatch of one record (R160): the tag byte taken, the kind's reads, a local failure caught. -/
def dispatchRecord (par : Config.Params) (id : Byte) (body : List Byte → ParseCtx → Got Unit) (P : List Byte)
    (c : ParseCtx) : ParseCtx :=
  match body P { c with off := c.off + 1 } with
  | .got _ c' => c'
  | .failed f c' => localFailure par.failPoint id c.off P f c'

/-- `push(RECQ, r)` as the last action of a kind. -/
def pushRecord (r : Record) (c : ParseCtx) : Got Unit := .got () (c.record r)

/-- `param_id <- rd8() ; length <- rd8() ; data <- rdN(length)` (R163, R164, R170). -/
def readParam (P : List Byte) (c : ParseCtx) : Got Item :=
  (rd8 P c).andThen fun pid c =>
  (rd8 P c).andThen fun len c =>
  (rdN len.toNat P c).andThen fun data c => .got ⟨pid, len, data⟩ c

/-- The item loop of R170: exactly `n` items. -/
def readItems : Nat → List Byte → ParseCtx → Got (List Item)
  | 0, _, c => .got [] c
  | n + 1, P, c =>
    (readParam P c).andThen fun item c =>
    (readItems n P c).andThen fun items c => .got (item :: items) c

/-- One event of R166 and its entries (R72, R205). -/
def readEvent (par : Config.Params) (P : List Byte) (c : ParseCtx) : Got ArchiveEvent :=
  (rd8 P c).andThen fun code c =>
  (rd32le P c).andThen fun time c =>
  (rd8 P c).andThen fun len c =>
  (rdN len.toNat P c).andThen fun d c =>
  let e := parseEntries par d c.warnq c.errq
  .got ⟨code, time, len, e.entries⟩ { c with warnq := e.warnq, errq := e.errq }

/-- The remainder of the payload is padding, or nothing (R161, R166). -/
def atPadding (P : List Byte) (off : Nat) : Bool := allZero (P.drop off)

/-- The event loop of R166; `fuel` is at least the number of bytes left. -/
def readEvents (par : Config.Params) : Nat → List Byte → ParseCtx → Got (List ArchiveEvent)
  | 0, _, c => .got [] c
  | fuel + 1, P, c =>
    if atPadding P c.off then .got [] c
    else
      (readEvent par P c).andThen fun ev c =>
      (readEvents par fuel P c).andThen fun evs c => .got (ev :: evs) c

/-! ### The rule of each record kind -/

/-- config_command (R163). -/
def ruleConfigCommand (par : Config.Params) (P : List Byte) (c : ParseCtx) : ParseCtx :=
  dispatchRecord par 0x01 (fun P c =>
    (readParam P c).andThen fun x c => pushRecord (.configCommand x.paramId x.length x.data) c) P c

/-- config_response (R165). -/
def ruleConfigResponse (par : Config.Params) (P : List Byte) (c : ParseCtx) : ParseCtx :=
  dispatchRecord par 0x02 (fun P c =>
    (rd8 P c).andThen fun pid c =>
    (rd8 P c).andThen fun result c => pushRecord (.configResponse pid result) c) P c

/-- archive (R166). -/
def ruleArchive (par : Config.Params) (P : List Byte) (c : ParseCtx) : ParseCtx :=
  dispatchRecord par 0x03 (fun P c =>
    (rd8 P c).andThen fun seq c =>
    (readEvents par P.length P c).andThen fun evs c => pushRecord (.archive seq evs) c) P c

/-- archive_ack (R167). -/
def ruleArchiveAck (par : Config.Params) (P : List Byte) (c : ParseCtx) : ParseCtx :=
  dispatchRecord par 0x04 (fun P c => (rd8 P c).andThen fun seq c => pushRecord (.archiveAck seq) c) P c

/-- read_command (R164). -/
def ruleReadCommand (par : Config.Params) (P : List Byte) (c : ParseCtx) : ParseCtx :=
  dispatchRecord par 0x06 (fun P c =>
    (readParam P c).andThen fun x c => pushRecord (.readCommand x.paramId x.length x.data) c) P c

/-- read_response (R168). -/
def ruleReadResponse (par : Config.Params) (P : List Byte) (c : ParseCtx) : ParseCtx :=
  dispatchRecord par 0x07 (fun P c =>
    (rd8 P c).andThen fun pid c =>
    (rd8 P c).andThen fun result c =>
    (rd8 P c).andThen fun len c =>
    (rdN len.toNat P c).andThen fun data c => pushRecord (.readResponse pid result len data) c) P c

/-- auth (R169): no warning, no error (90_conflicts.md C6). -/
def ruleAuth (par : Config.Params) (P : List Byte) (c : ParseCtx) : ParseCtx :=
  dispatchRecord par 0x08 (fun P c => (rdRest P c).andThen fun blob c => pushRecord (.auth blob) c) P c

/-- telemetry (R170). -/
def ruleTelemetry (par : Config.Params) (P : List Byte) (c : ParseCtx) : ParseCtx :=
  dispatchRecord par 0x09 (fun P c =>
    (rd8 P c).andThen fun count c =>
    (readItems count.toNat P c).andThen fun items c => pushRecord (.telemetry count items) c) P c

/-- The kinds that take the rest of the payload and record a warning and a non-fatal error (R171, R172); `at'` is
the offset of the tag byte. -/
def takeRest (r : List Byte → Record) (reason : NfReason) (id : Byte) (P : List Byte) (c : ParseCtx) : Got Unit :=
  let at' := c.off - 1
  (rdRest P c).andThen fun raw c => .got () ((c.record (r raw)).anomaly reason (some id) (.dataId id at'))

/-- `rtu800_extended` (R171). -/
def extendedRecord (par : Config.Params) (id : Byte) (P : List Byte) (c : ParseCtx) : ParseCtx :=
  dispatchRecord par id (takeRest (.rtu800Extended id) .rtu800ExtendedId id) P c

/-- `unknown` (R172). -/
def unknownRecord (par : Config.Params) (id : Byte) (P : List Byte) (c : ParseCtx) : ParseCtx :=
  dispatchRecord par id (takeRest (.unknown id) .unknownDataId id) P c

/-- rtu800_extended_10 (R171). -/
def ruleRtu800Extended10 (par : Config.Params) (P : List Byte) (c : ParseCtx) : ParseCtx :=
  extendedRecord par 0x0A P c

/-- rtu800_extended_11 (R171). -/
def ruleRtu800Extended11 (par : Config.Params) (P : List Byte) (c : ParseCtx) : ParseCtx :=
  extendedRecord par 0x0B P c

/-- rtu800_extended_12 (R171). -/
def ruleRtu800Extended12 (par : Config.Params) (P : List Byte) (c : ParseCtx) : ParseCtx :=
  extendedRecord par 0x0C P c

/-- rtu800_extended_13 (R171). -/
def ruleRtu800Extended13 (par : Config.Params) (P : List Byte) (c : ParseCtx) : ParseCtx :=
  extendedRecord par 0x0D P c

/-- rtu800_extended_14 (R171). -/
def ruleRtu800Extended14 (par : Config.Params) (P : List Byte) (c : ParseCtx) : ParseCtx :=
  extendedRecord par 0x0E P c

/-- unknown_00_00 (R172). -/
def ruleUnknown00_00 (par : Config.Params) (P : List Byte) (c : ParseCtx) : ParseCtx :=
  unknownRecord par 0x00 P c

/-- unknown_05_05 (R172). -/
def ruleUnknown05_05 (par : Config.Params) (P : List Byte) (c : ParseCtx) : ParseCtx :=
  unknownRecord par 0x05 P c

/-- unknown_0F_0F (R172). -/
def ruleUnknown0F_0F (par : Config.Params) (P : List Byte) (c : ParseCtx) : ParseCtx :=
  unknownRecord par 0x0F P c

/-- unknown_10_1F (R172). -/
def ruleUnknown10_1F (par : Config.Params) (id : Byte) (P : List Byte) (c : ParseCtx) : ParseCtx :=
  unknownRecord par id P c

/-- unknown_20_3F (R172). -/
def ruleUnknown20_3F (par : Config.Params) (id : Byte) (P : List Byte) (c : ParseCtx) : ParseCtx :=
  unknownRecord par id P c

/-- unknown_40_7F (R172). -/
def ruleUnknown40_7F (par : Config.Params) (id : Byte) (P : List Byte) (c : ParseCtx) : ParseCtx :=
  unknownRecord par id P c

/-- unknown_80_FF (R172). -/
def ruleUnknown80_FF (par : Config.Params) (id : Byte) (P : List Byte) (c : ParseCtx) : ParseCtx :=
  unknownRecord par id P c

/-- PAD (R161): `PAD_LEN <- len(P) - OFF`, and the walk stops. -/
def rulePad (P : List Byte) (c : ParseCtx) : ParseCtx := { c with padLen := P.length - c.off, ended := true }

/-- The rule of a record or of padding; `none` for an instruction that is neither. -/
def recordRule (par : Config.Params) : Instr → Option (List Byte → ParseCtx → ParseCtx)
  | .configCommand => some (ruleConfigCommand par)
  | .configResponse => some (ruleConfigResponse par)
  | .archive => some (ruleArchive par)
  | .archiveAck => some (ruleArchiveAck par)
  | .readCommand => some (ruleReadCommand par)
  | .readResponse => some (ruleReadResponse par)
  | .auth => some (ruleAuth par)
  | .telemetry => some (ruleTelemetry par)
  | .rtu800Extended10 => some (ruleRtu800Extended10 par)
  | .rtu800Extended11 => some (ruleRtu800Extended11 par)
  | .rtu800Extended12 => some (ruleRtu800Extended12 par)
  | .rtu800Extended13 => some (ruleRtu800Extended13 par)
  | .rtu800Extended14 => some (ruleRtu800Extended14 par)
  | .unknown00_00 => some (ruleUnknown00_00 par)
  | .unknown05_05 => some (ruleUnknown05_05 par)
  | .unknown0F_0F => some (ruleUnknown0F_0F par)
  | .unknown10_1F id => some (ruleUnknown10_1F par id)
  | .unknown20_3F id => some (ruleUnknown20_3F par id)
  | .unknown40_7F id => some (ruleUnknown40_7F par id)
  | .unknown80_FF id => some (ruleUnknown80_FF par id)
  | .pad => some rulePad
  | _ => none

/-- The loop of R160; `fuel` is more than the number of bytes left. -/
def parseLoop (par : Config.Params) : Nat → List Byte → ParseCtx → ParseCtx
  | 0, _, c => c
  | fuel + 1, P, c =>
    if c.ended then c
    else
      match decode .record (P.drop c.off) with
      | .error _ => c
      | .ok i =>
        match recordRule par i with
        | none => c
        | some rule => parseLoop par fuel P (rule P c)

/-- `PARSE(P)` (R160) from empty queues. -/
def parse (par : Config.Params) (P : List Byte) : ParseCtx := parseLoop par (P.length + 1) P {}

/-- PARSE in the state: OFF, PAD_LEN, RECQ, WARNQ, ERRQ (R160). -/
def runParse (P : List Byte) (s : State) : State := setParse (parse Config.params P) s

/-! ### The command -/

/-- PARSE (R160) on `IBUF[0..ILEN)`. -/
def execParse (s : State) : Out :=
  runCommand (withInput fun P s => .next (finishOk (runParse P s))) s

/-! ### A walk in progress -/

/-- The state inside PARSE with the walk of `P` about to read its first tag byte (log 2). -/
def beginParse (P : List Byte) (s : State) : State := setWalk (.records P) (startCommand s)

/-- The state after a record or padding: PARSE ended where the rule has stopped the walk. -/
def afterRecord (c : ParseCtx) (s : State) : State :=
  if c.ended then finishOk (setParse c s) else setParse c s

/-- A record, or padding, as an instruction. -/
def recordStep (rule : List Byte → ParseCtx → ParseCtx) (s : State) : Out :=
  match s.walk with
  | .records P => .next (afterRecord (rule P (parseCtx s)) s)
  | _ => .refused .outsideWalk

/-- config_command (R163). -/
def execConfigCommand (s : State) : Out := recordStep (ruleConfigCommand Config.params) s

/-- config_response (R165). -/
def execConfigResponse (s : State) : Out := recordStep (ruleConfigResponse Config.params) s

/-- archive (R166). -/
def execArchive (s : State) : Out := recordStep (ruleArchive Config.params) s

/-- archive_ack (R167). -/
def execArchiveAck (s : State) : Out := recordStep (ruleArchiveAck Config.params) s

/-- read_command (R164). -/
def execReadCommand (s : State) : Out := recordStep (ruleReadCommand Config.params) s

/-- read_response (R168). -/
def execReadResponse (s : State) : Out := recordStep (ruleReadResponse Config.params) s

/-- auth (R169). -/
def execAuth (s : State) : Out := recordStep (ruleAuth Config.params) s

/-- telemetry (R170). -/
def execTelemetry (s : State) : Out := recordStep (ruleTelemetry Config.params) s

/-- rtu800_extended_10 (R171). -/
def execRtu800Extended10 (s : State) : Out := recordStep (ruleRtu800Extended10 Config.params) s

/-- rtu800_extended_11 (R171). -/
def execRtu800Extended11 (s : State) : Out := recordStep (ruleRtu800Extended11 Config.params) s

/-- rtu800_extended_12 (R171). -/
def execRtu800Extended12 (s : State) : Out := recordStep (ruleRtu800Extended12 Config.params) s

/-- rtu800_extended_13 (R171). -/
def execRtu800Extended13 (s : State) : Out := recordStep (ruleRtu800Extended13 Config.params) s

/-- rtu800_extended_14 (R171). -/
def execRtu800Extended14 (s : State) : Out := recordStep (ruleRtu800Extended14 Config.params) s

/-- unknown_00_00 (R172). -/
def execUnknown00_00 (s : State) : Out := recordStep (ruleUnknown00_00 Config.params) s

/-- unknown_05_05 (R172). -/
def execUnknown05_05 (s : State) : Out := recordStep (ruleUnknown05_05 Config.params) s

/-- unknown_0F_0F (R172). -/
def execUnknown0F_0F (s : State) : Out := recordStep (ruleUnknown0F_0F Config.params) s

/-- unknown_10_1F (R172). -/
def execUnknown10_1F (id : Byte) (s : State) : Out := recordStep (ruleUnknown10_1F Config.params id) s

/-- unknown_20_3F (R172). -/
def execUnknown20_3F (id : Byte) (s : State) : Out := recordStep (ruleUnknown20_3F Config.params id) s

/-- unknown_40_7F (R172). -/
def execUnknown40_7F (id : Byte) (s : State) : Out := recordStep (ruleUnknown40_7F Config.params id) s

/-- unknown_80_FF (R172). -/
def execUnknown80_FF (id : Byte) (s : State) : Out := recordStep (ruleUnknown80_FF Config.params id) s

/-- PAD (R161). -/
def execPad (s : State) : Out := recordStep rulePad s

end Sys2Proof.Machine
end

