-- ==== Sys2Proof/Machine/DecodePipeline.lean ====
section
/-! DEFINITION. The DecodePipeline (43_decode_pipeline.md): the checks of the stages (R137 to R146) and the command
DECODE (R136). -/

namespace Sys2Proof.Machine

/-- `check_frame(D)` (R137). -/
def checkFrame (D : List Byte) : Option FatalError :=
  if D.length < 2 then some ⟨.tooShort, .length D.length⟩
  else if D.headD 0 ≠ Config.START ∨ D.getLastD 0 ≠ Config.END then
    some ⟨.invalidBoundaries, .boundaries (D.headD 0) (D.getLastD 0)⟩
  else none

/-- The interior of a datagram, `D[1 .. len(D)-1)` (R138). -/
def interior (D : List Byte) : List Byte := slice D 1 (D.length - 1)

/-- `check_body(BODY)` (R140; stage tag `frame` by 90_conflicts.md C1). -/
def checkBody (body : List Byte) : Option FatalError :=
  if body.length < Config.MIN_BODY then some ⟨.bodyTooShort, .length body.length⟩ else none

/-- The device id of a body, `LE64(BODY[0..8))` (R141). -/
def bodyDevid (body : List Byte) : BitVec 64 := LE64 (slice body 0 8)

/-- The ciphertext of a body, `BODY[8..)` (R142). -/
def bodyCt (body : List Byte) : List Byte := body.drop 8

/-- `check_ct(CT)` (R142). -/
def checkCt (ct : List Byte) : Option FatalError :=
  if ct.length = 0 ∨ ct.length % Config.BLOCK ≠ 0 then some ⟨.invalidCiphertextLength, .length ct.length⟩ else none

/-- The key checks (R144; stage tag `key_lookup` by 90_conflicts.md C2). -/
def checkKey (answer : Option (List Byte)) : Except FatalError (List Byte) :=
  match answer with
  | none => .error ⟨.missingKeyForImei, .empty⟩
  | some key =>
    if key.length ≠ Config.KEYLEN then .error ⟨.invalidKeyLength, .length key.length⟩ else .ok key

/-- The payload of a plaintext, `PT[0 .. len(PT)-2)` (R146, R148). -/
def plainPayload (pt : List Byte) : List Byte := pt.take (pt.length - 2)

/-- The trailer of a plaintext, `LE16(PT[len(PT)-2 .. len(PT)))` (R146). -/
def plainTrailer (pt : List Byte) : BitVec 16 := LE16 (pt.drop (pt.length - 2))

/-- `check_crc(PT)` (R146), given the checksum computed over the payload. -/
def checkCrc (pt : List Byte) (computed : BitVec 16) : Option FatalError :=
  if pt.length < 2 then some ⟨.plaintextTooShort, .length pt.length⟩
  else if plainTrailer pt ≠ computed then some ⟨.crcMismatch, .crc (plainTrailer pt) computed⟩
  else none

/-- Stage `payload_parse` (R147, R148, R149): it cannot fail. -/
def payloadStage (s : State) : State :=
  let s := markPayload (setStage .payloadParse s)
  let s := setObuf (plainPayload s.work.pt) s
  finishOk (runParse s.res.obuf s)

/-- Stage `crc` (R146). -/
def crcStage (s : State) : State :=
  let s := runCrc (plainPayload s.work.pt) Config.crcDefault (setStage .crc s)
  match checkCrc s.work.pt s.work.crc with
  | some e => raiseFatal e s
  | none => payloadStage s

/-- Stage `xtea`, the decryption (R145). -/
def decryptStage (key : List Byte) (s : State) : State :=
  let s := setStage .xtea s
  match cipherRun decryptBlock s.work.ct key s with
  | .error c => raiseFatal ⟨.decryptFailed, .cause c⟩ s
  | .ok (pt, s) => crcStage (setPt pt s)

/-- Stage `key_lookup` (R143, R144): one request, with the decimal string of DEVID. -/
def keyStage (s : State) : State :=
  let q := decString s.res.devid
  let s := requestKey q (setStage .keyLookup s)
  match checkKey (keyAnswer s q) with
  | .error e => raiseFatal e s
  | .ok key => decryptStage key s

/-- Stages `imei` and `xtea` up to the key lookup (R140, R141, R142). -/
def bodyStage (s : State) : State :=
  let s := setStage .imei s
  match checkBody s.work.body with
  | some e => raiseFatal e s
  | none =>
    let s := setStage .xtea (setDevid (bodyDevid s.work.body) s)
    let s := setCt (bodyCt s.work.body) s
    match checkCt s.work.ct with
    | some e => raiseFatal e s
    | none => keyStage s

/-- Stages `frame` and `unstuff` (R137, R138), and what follows. -/
def frameStage (D : List Byte) (s : State) : State :=
  let s := setStage .frame s
  match checkFrame D with
  | some e => raiseFatal e s
  | none =>
    let s := setStage .unstuff s
    match unstuff (interior D) with
    | .error e => raiseFatal e s
    | .ok body => bodyStage (setBody body s)

/-- DECODE (R136) on the datagram `IBUF[0..ILEN)`. -/
def execDecode (s : State) : Out :=
  runCommand (withInput fun D s => .next (frameStage D s)) s

end Sys2Proof.Machine
end

