-- ==== Sys2Proof/Machine/FrameBuilder.lean ====
section
/-! DEFINITION. The FrameBuilder (46_frame_builder.md): `prepare_plaintext` (R216), `build_frame` (R218) and the
commands PREP, FRAME and BUILD (R220). -/

namespace Sys2Proof.Machine

/-- The padding of a payload of `n` bytes (R216): the least number that works. -/
def padCount (n : Nat) : Nat := (8 - (n + 2) % 8) % 8

/-- The payload with its padding (R216). -/
def padPayload (payload : List Byte) : List Byte := payload ++ zeros (padCount payload.length)

/-- `prepare_plaintext(payload)` (R216). -/
def preparePlaintext (payload : List Byte) : List Byte :=
  padPayload payload ++ le16 (crc16 (padPayload payload) Config.crcDefault)

/-- `build_frame(device_id, encrypted_body)` (R218). -/
def buildFrame (devid : BitVec 64) (encBody : List Byte) : List Byte :=
  [Config.START] ++ stuff (le64 devid ++ encBody) ++ [Config.END]

/-- `prepare_plaintext` in the registers: the checksum in CRC, the plaintext in PT (R12, R28, R216). -/
def runPrep (payload : List Byte) (s : State) : State :=
  let s := runCrc (padPayload payload) Config.crcDefault s
  setPt (padPayload payload ++ le16 s.work.crc) s

/-- PREP (R216): `OBUF <- prepare_plaintext(IBUF[0..ILEN))`. -/
def execPrep (s : State) : Out :=
  runCommand (withInput fun payload s =>
    let s := runPrep payload s
    .next (finishOk (setObuf s.work.pt s))) s

/-- FRAME (R218): `OBUF <- build_frame(DEVID_IN, IBUF[0..ILEN))`. -/
def execFrame (s : State) : Out :=
  runCommand (withInput fun e s => .next (finishOk (setObuf (buildFrame s.devidIn e) s))) s

/-- BUILD (R220): PREP, XTEA_ENC and FRAME in turn, through PT and CT. -/
def execBuild (s : State) : Out :=
  runCommand (withInput fun payload s =>
    let s := runPrep payload s
    match cipherRun encryptBlock s.work.pt s.key.toList s with
    | .error c => .next (raiseFatal ⟨.cipherFailed, .cause c⟩ s)
    | .ok (ct, s) =>
      let s := setCt ct s
      .next (finishOk (setObuf (buildFrame s.devidIn s.work.ct) s))) s

end Sys2Proof.Machine
end

