-- ==== Sys2Proof/Machine/IllegalCommands.lean ====
section
/-! DEFINITION. The illegal command codes (30_encoding.md R62). -/

namespace Sys2Proof.Machine

/-- A code that selects no command (R62): results cleared as at any start, CMD_ERR and DONE, nothing else. -/
def illegalCommand (s : State) : Out := runCommand (fun s => .next (endCmdErr s)) s

/-- ILLEGAL_CMD_00_00 (R62). -/
def execIllegalCmd00_00 (s : State) : Out := illegalCommand s

/-- ILLEGAL_CMD_0C_0F (R62). -/
def execIllegalCmd0C_0F (_code : Byte) (s : State) : Out := illegalCommand s

/-- ILLEGAL_CMD_10_1F (R62). -/
def execIllegalCmd10_1F (_code : Byte) (s : State) : Out := illegalCommand s

/-- ILLEGAL_CMD_20_3F (R62). -/
def execIllegalCmd20_3F (_code : Byte) (s : State) : Out := illegalCommand s

/-- ILLEGAL_CMD_40_7F (R62). -/
def execIllegalCmd40_7F (_code : Byte) (s : State) : Out := illegalCommand s

/-- ILLEGAL_CMD_80_FF (R62). -/
def execIllegalCmd80_FF (_code : Byte) (s : State) : Out := illegalCommand s

end Sys2Proof.Machine
end

