-- ==== Sys2Proof/Machine/Dispatch.lean ====
section
/-! DEFINITION. What each instruction does: one arm per row of spec/opcode_table.json. -/

namespace Sys2Proof.Machine

def exec (i : Instr) (s : State) : Host.Outcome State Fault Refusal :=
  match i with
  -- commands (R61, R62)
  | .crc16 => Sys2Proof.Machine.execCrc16 s
  | .xteaEnc => Sys2Proof.Machine.execXteaEnc s
  | .xteaDec => Sys2Proof.Machine.execXteaDec s
  | .stuff => Sys2Proof.Machine.execStuff s
  | .unstuff => Sys2Proof.Machine.execUnstuff s
  | .decode => Sys2Proof.Machine.execDecode s
  | .parse => Sys2Proof.Machine.execParse s
  | .evparse => Sys2Proof.Machine.execEvparse s
  | .prep => Sys2Proof.Machine.execPrep s
  | .frame => Sys2Proof.Machine.execFrame s
  | .build => Sys2Proof.Machine.execBuild s
  | .illegalCmd00_00 => Sys2Proof.Machine.execIllegalCmd00_00 s
  | .illegalCmd0C_0F code => Sys2Proof.Machine.execIllegalCmd0C_0F code s
  | .illegalCmd10_1F code => Sys2Proof.Machine.execIllegalCmd10_1F code s
  | .illegalCmd20_3F code => Sys2Proof.Machine.execIllegalCmd20_3F code s
  | .illegalCmd40_7F code => Sys2Proof.Machine.execIllegalCmd40_7F code s
  | .illegalCmd80_FF code => Sys2Proof.Machine.execIllegalCmd80_FF code s
  -- records (R69, R70)
  | .configCommand => Sys2Proof.Machine.execConfigCommand s
  | .configResponse => Sys2Proof.Machine.execConfigResponse s
  | .archive => Sys2Proof.Machine.execArchive s
  | .archiveAck => Sys2Proof.Machine.execArchiveAck s
  | .readCommand => Sys2Proof.Machine.execReadCommand s
  | .readResponse => Sys2Proof.Machine.execReadResponse s
  | .auth => Sys2Proof.Machine.execAuth s
  | .telemetry => Sys2Proof.Machine.execTelemetry s
  | .rtu800Extended10 => Sys2Proof.Machine.execRtu800Extended10 s
  | .rtu800Extended11 => Sys2Proof.Machine.execRtu800Extended11 s
  | .rtu800Extended12 => Sys2Proof.Machine.execRtu800Extended12 s
  | .rtu800Extended13 => Sys2Proof.Machine.execRtu800Extended13 s
  | .rtu800Extended14 => Sys2Proof.Machine.execRtu800Extended14 s
  | .unknown00_00 => Sys2Proof.Machine.execUnknown00_00 s
  | .unknown05_05 => Sys2Proof.Machine.execUnknown05_05 s
  | .unknown0F_0F => Sys2Proof.Machine.execUnknown0F_0F s
  | .unknown10_1F id => Sys2Proof.Machine.execUnknown10_1F id s
  | .unknown20_3F id => Sys2Proof.Machine.execUnknown20_3F id s
  | .unknown40_7F id => Sys2Proof.Machine.execUnknown40_7F id s
  | .unknown80_FF id => Sys2Proof.Machine.execUnknown80_FF id s
  -- padding (R161)
  | .pad => Sys2Proof.Machine.execPad s
  -- stuffing (R120)
  | .stuffC0 => Sys2Proof.Machine.execStuffC0 s
  | .stuffC2 => Sys2Proof.Machine.execStuffC2 s
  | .stuffC4 => Sys2Proof.Machine.execStuffC4 s
  | .stuffLit00_7F b => Sys2Proof.Machine.execStuffLit00_7F b s
  | .stuffLit80_BF b => Sys2Proof.Machine.execStuffLit80_BF b s
  | .stuffLitC1_C1 => Sys2Proof.Machine.execStuffLitC1_C1 s
  | .stuffLitC3_C3 => Sys2Proof.Machine.execStuffLitC3_C3 s
  | .stuffLitC5_C5 => Sys2Proof.Machine.execStuffLitC5_C5 s
  | .stuffLitC6_C7 b => Sys2Proof.Machine.execStuffLitC6_C7 b s
  | .stuffLitC8_CF b => Sys2Proof.Machine.execStuffLitC8_CF b s
  | .stuffLitD0_DF b => Sys2Proof.Machine.execStuffLitD0_DF b s
  | .stuffLitE0_FF b => Sys2Proof.Machine.execStuffLitE0_FF b s
  -- unstuffing, one byte (R122)
  | .unstuffLit00_7F b => Sys2Proof.Machine.execUnstuffLit00_7F b s
  | .unstuffLit80_BF b => Sys2Proof.Machine.execUnstuffLit80_BF b s
  | .unstuffLitC0_C3 b => Sys2Proof.Machine.execUnstuffLitC0_C3 b s
  | .unstuffLitC5_C5 => Sys2Proof.Machine.execUnstuffLitC5_C5 s
  | .unstuffLitC6_C7 b => Sys2Proof.Machine.execUnstuffLitC6_C7 b s
  | .unstuffLitC8_CF b => Sys2Proof.Machine.execUnstuffLitC8_CF b s
  | .unstuffLitD0_DF b => Sys2Proof.Machine.execUnstuffLitD0_DF b s
  | .unstuffLitE0_FF b => Sys2Proof.Machine.execUnstuffLitE0_FF b s
  -- unstuffing, a pair (R122)
  | .unstuffEscC1 => Sys2Proof.Machine.execUnstuffEscC1 s
  | .unstuffEscC3 => Sys2Proof.Machine.execUnstuffEscC3 s
  | .unstuffEscC4 => Sys2Proof.Machine.execUnstuffEscC4 s
  | .unstuffBadEsc00_7F n => Sys2Proof.Machine.execUnstuffBadEsc00_7F n s
  | .unstuffBadEsc80_BF n => Sys2Proof.Machine.execUnstuffBadEsc80_BF n s
  | .unstuffBadEscC0_C0 => Sys2Proof.Machine.execUnstuffBadEscC0_C0 s
  | .unstuffBadEscC2_C2 => Sys2Proof.Machine.execUnstuffBadEscC2_C2 s
  | .unstuffBadEscC5_C5 => Sys2Proof.Machine.execUnstuffBadEscC5_C5 s
  | .unstuffBadEscC6_C7 n => Sys2Proof.Machine.execUnstuffBadEscC6_C7 n s
  | .unstuffBadEscC8_CF n => Sys2Proof.Machine.execUnstuffBadEscC8_CF n s
  | .unstuffBadEscD0_DF n => Sys2Proof.Machine.execUnstuffBadEscD0_DF n s
  | .unstuffBadEscE0_FF n => Sys2Proof.Machine.execUnstuffBadEscE0_FF n s
  | .unstuffDangling => Sys2Proof.Machine.execUnstuffDangling s
  -- entries (R202)
  | .entryType0 => Sys2Proof.Machine.execEntryType0 s
  | .entryType20 => Sys2Proof.Machine.execEntryType20 s
  | .entryTypeOther01_01 => Sys2Proof.Machine.execEntryTypeOther01_01 s
  | .entryTypeOther02_03 t => Sys2Proof.Machine.execEntryTypeOther02_03 t s
  | .entryTypeOther04_07 t => Sys2Proof.Machine.execEntryTypeOther04_07 t s
  | .entryTypeOther08_0F t => Sys2Proof.Machine.execEntryTypeOther08_0F t s
  | .entryTypeOther10_13 t => Sys2Proof.Machine.execEntryTypeOther10_13 t s
  | .entryTypeOther15_15 => Sys2Proof.Machine.execEntryTypeOther15_15 s
  | .entryTypeOther16_17 t => Sys2Proof.Machine.execEntryTypeOther16_17 t s
  | .entryTypeOther18_1F t => Sys2Proof.Machine.execEntryTypeOther18_1F t s
  | .entryTypeOther20_3F t => Sys2Proof.Machine.execEntryTypeOther20_3F t s
  | .entryTypeOther40_7F t => Sys2Proof.Machine.execEntryTypeOther40_7F t s
  | .entryTypeOther80_FF t => Sys2Proof.Machine.execEntryTypeOther80_FF t s

end Sys2Proof.Machine
end

