-- ==== Sys2Proof/Machine/Fetch.lean ====
section
/-! DEFINITION. Where the next instruction is read, and what happens where there is none (log 2, 9). -/

namespace Sys2Proof.Machine

/-- The decode space the sequencer reads next, and the bytes from there on: CMD if no command runs and one is
pending (R60), else the rest of the buffer the walk stands in (R120, R122, R160, R202). With no command pending
there are no bytes. -/
def fetchBytes (s : State) : Space × List Byte :=
  match s.walk with
  | .idle => (.cmd, if s.cmdPending then [s.cmd] else [])
  | .stuffing sc => (.stuffIn, sc.buf.drop sc.i)
  | .unstuffing sc => (.unstuffIn, sc.buf.drop sc.i)
  | .records P => (.record, P.drop s.off)
  | .entries d p _ => (.entry, d.drop p)

/-- What a step does at the end of its input: a walk's command ends with its results (R120, R122, R160, R202, R206);
with no command pending the CORE waits (log 9). -/
def atEnd (s : State) : State :=
  match s.walk with
  | .idle => s
  | .stuffing sc => finishOk (setObuf sc.out s)
  | .unstuffing sc => finishOk (setObuf sc.out s)
  | .records _ => finishOk s
  | .entries d p es => finishEvparse d.length (entryCtx p es s) s

/-- `s` with an instruction of the opcode table where the next step reads it: a byte as the host writes it to CMD; a
pair as the whole input of a running UNSTUFF (log 10). -/
def placeWord (s : State) (nbits w : Nat) : State :=
  if nbits = 16 then
    { s with status := { s.status with busy := true }, walk := .unstuffing ⟨tableBytes nbits w, 0, []⟩ }
  else
    writeCmd (BitVec.ofNat 8 w) s

end Sys2Proof.Machine
end

