-- ==== Sys2Proof/Machine/Step.lean ====
section
/-! DEFINITION. One step: read, decode, execute (R46, R60, R160; log 1, 2). -/

namespace Sys2Proof.Machine

/-- One step of the sequencer. -/
def step (s : State) : Host.Outcome State Fault Refusal :=
  match decode (fetchBytes s).1 (fetchBytes s).2 with
  | .ok i => exec i s
  | .error .endOfInput => .next (atEnd s)
  | .error .noRow => .refused (.undecodable (fetchBytes s).1)

/-- `s` with the table's instruction stored where `step` reads its next instruction. -/
def State.withFetchWord (s : State) (nbits w : Nat) : State := placeWord s nbits w

end Sys2Proof.Machine
end

