-- ==== Sys2Proof/Machine/HostPort.lean ====
section
/-! DEFINITION. What the host does between commands: writes (70_reset_and_hazards.md R277, R278), reset (R270), and the
views of the results it reads (10_state.md R26, R35). Not part of the step: inputs land between commands (R46). -/

namespace Sys2Proof.Machine

/-- A write of the host (R16, R17, R19, R27, R60, R276), or reset (R270). -/
inductive HostWrite
  | rounds (v : BitVec 32)
  | crcInit (v : BitVec 16)
  | keyByte (i : Fin 16) (v : Byte)
  | devidIn (v : BitVec 64)
  | ibufByte (offset : Nat) (v : Byte)
  | ilen (v : BitVec 16)
  | input (bs : List Byte)
  | cmd (code : Byte)
  | resolver (table : List (List Byte × List Byte)) (dflt : Option (List Byte))
  | reset
  deriving DecidableEq, Repr

/-- No command runs and none is pending: the host may write and may read results (R278). -/
def hostTurn (s : State) : Bool := !s.status.busy && !s.cmdPending

/-- A host write with the host's turn. `input` is the bytes and ILEN in one go (R277). The spec gives no meaning to a
byte at offset 65535 or above, and none to an input of more than 65535 bytes (R27, R282, D3, D34): both fault, the
model's choice (log 18). -/
def hostStore (w : HostWrite) (s : State) : Out :=
  match w with
  | .rounds v => .next { s with rounds := v }
  | .crcInit v => .next { s with crcInit := v }
  | .keyByte i v => .next { s with key := s.key.set i v }
  | .devidIn v => .next { s with devidIn := v }
  | .ibufByte a v => if a < Config.BUF_CAP then .next { s with ibuf := memWrite s.ibuf a v } else .fault (.ibufOutOfRange a)
  | .ilen v => .next { s with ilen := v }
  | .input bs => if bs.length ≤ Config.BUF_CAP then .next (storeInput bs s) else .fault (.ibufOutOfRange Config.BUF_CAP)
  | .cmd code => .next (writeCmd code s)
  | .resolver t d => .next { s with keyTable := t, keyDefault := d }
  | .reset => .next { State.reset with keyTable := s.keyTable, keyDefault := s.keyDefault }

/-- An action of the host: reset at any time (R270), a write only with the host's turn (R278, log 11). -/
def hostAct (w : HostWrite) (s : State) : Out :=
  match w with
  | .reset => hostStore .reset s
  | w => if hostTurn s then hostStore w s else .refused .hostWhileBusy

/-- The host loads the input `bs` (R277), with its turn; more than 65535 bytes fault (log 18). -/
def hostLoad (bs : List Byte) (s : State) : Out := hostAct (.input bs) s

/-- The host writes `code` to CMD (R60), with its turn. -/
def hostCmd (code : Byte) (s : State) : Out := hostAct (.cmd code) s

/-- DecodeOutcome (10_state.md R35). -/
structure DecodeOutcome where
  devid : List Byte
  frameOk : Bool
  crcOk : Bool
  payload : List Byte
  records : List Record
  warnings : List Warning
  errors : List NfError
  padLen : Nat
  deriving DecidableEq, Repr

/-- The DecodeOutcome the host reads: after a DECODE that ended with OK = 1, the one command that sets FRAME_OK
(R23, R35). -/
def decodeOutcome (s : State) : Option DecodeOutcome :=
  if hostTurn s && s.status.ok && s.status.frameOk then
    some
      { devid := decString s.res.devid
        frameOk := s.status.frameOk
        crcOk := s.status.crcOk
        payload := s.res.obuf
        records := s.res.recq
        warnings := s.res.warnq
        errors := s.res.errq
        padLen := s.res.padLen }
  else none

/-- The ProtocolError the host reads, valid when FATAL = 1 (R26). -/
def protocolError (s : State) : Option Err :=
  if hostTurn s && s.status.fatal then some s.res.err else none

/-- The device-id string of an error, once the device id is known (R24, R26). -/
def errDevidString (e : Err) : Option (List Byte) := if e.devidValid then some (decString e.devid) else none

end Sys2Proof.Machine
end

