-- ==== Sys2Proof/Safety.lean ====
section
/-! DEFINITION. The terms claims are stated in: what an instruction leaves alone, how a command ends, well-formed
results, and the invariant of the machine. -/

namespace Sys2Proof.Machine

/-- What no instruction writes: the configuration registers, IBUF, ILEN, CMD and the resolver (10_state.md R11, R16 to
R19, R27; 43_decode_pipeline.md R143). -/
structure Kept (s t : State) : Prop where
  rounds : t.rounds = s.rounds
  crcInit : t.crcInit = s.crcInit
  key : t.key = s.key
  devidIn : t.devidIn = s.devidIn
  ibuf : t.ibuf = s.ibuf
  ilen : t.ilen = s.ilen
  cmd : t.cmd = s.cmd
  keyTable : t.keyTable = s.keyTable
  keyDefault : t.keyDefault = s.keyDefault

/-- What a command's end shows besides `Kept`: STATUS, the results, STAGE, the key requests, and whether a command is
pending. OFF is no part of it: it holds any value between commands (U8), and `EndsAt` is the one place where a
statement speaks of it (log 12). -/
structure CommandView where
  status : Status
  res : Results
  stage : Stage := .none
  requests : List (List Byte) := []
  pending : Bool := false
  deriving DecidableEq, Repr

/-- What a state shows the host. -/
def viewOf (t : State) : CommandView :=
  { status := t.status, res := t.res, stage := t.stage, requests := t.keyRequests, pending := t.cmdPending }

/-- `exec i s` answers a next state in which the command has ended with the outcome `o` and left the rest alone. Only
the working registers and work buffers are not spoken of: they hold any value between commands (U8, log 5). -/
def EndsWith (i : Instr) (s : State) (o : CommandView) : Prop :=
  ∃ t, exec i s = .next t ∧ Kept s t ∧ viewOf t = o ∧ t.walk = .idle

/-- `EndsWith`, and the command leaves `off` in OFF. That OFF keeps after a command the value its last rule gave it is
the model's choice (log 12): U8 allows any value. -/
def EndsAt (i : Instr) (s : State) (o : CommandView) (off : Nat) : Prop :=
  ∃ t, exec i s = .next t ∧ Kept s t ∧ viewOf t = o ∧ t.walk = .idle ∧ t.off = off

/-- STATUS after a command other than DECODE that succeeded. -/
def okStatus : Status := { done := true, ok := true }

/-- STATUS after an illegal command, or an EVPARSE turned away (R62, R206). -/
def cmdErrStatus : Status := { done := true, cmdErr := true }

/-- STATUS and ERR after a fatal error (60_exceptions.md R240), with the device id if it is known. -/
def fatalOutcome (e : FatalError) (devid : Option (BitVec 64)) (stage : Stage) (requests : List (List Byte)) : CommandView :=
  { status := { done := true, fatal := true, devidValid := devid.isSome }
    res :=
      { devid := devid.getD 0
        err :=
          { stage := e.reason.stage, reason := e.reason, detail := e.detail
            devidValid := devid.isSome, devid := devid.getD 0 } }
    stage := stage
    requests := requests }

/-- What a symbol that ends the walk it stands in shows: STATUS and results as given, the rest as it was. -/
def symbolEnd (s : State) (status : Status) (res : Results) : CommandView :=
  { status := status, res := res, stage := s.stage, requests := s.keyRequests, pending := s.cmdPending }

/-! ### Well-formed results -/

/-- R32: what the raw bytes of an entry are, given EVT_LEN. -/
def EventEntry.wf (len : Byte → Option Config.EvtLen) (e : EventEntry) : Bool :=
  match e.status, len e.typeId with
  | .value, some l => e.raw.length == l.toNat
  | .value, none => false
  | .unknown, l => l.isNone
  | .lenMismatch, some l => decide (e.raw.length < l.toNat)
  | .lenMismatch, none => false

/-- R31: the entries of an event. -/
def ArchiveEvent.wf (len : Byte → Option Config.EvtLen) (v : ArchiveEvent) : Bool := v.entries.all (·.wf len)

/-- R30: the field relations of a record. -/
def Record.wf (len : Byte → Option Config.EvtLen) : Record → Bool
  | .configCommand _ n d => d.length == n.toNat
  | .readCommand _ n d => d.length == n.toNat
  | .readResponse _ _ n d => d.length == n.toNat
  | .configResponse _ _ => true
  | .archive _ evs => evs.all (·.wf len)
  | .archiveAck _ => true
  | .auth _ => true
  | .telemetry n items => items.length == n.toNat && items.all (fun x => x.data.length == x.length.toNat)
  | .rtu800Extended id _ => inBlock 10 14 id
  | .unknown _ _ => true

/-- The argument byte of the warning pushed with a non-fatal error (R33). -/
def NfDetail.arg : NfDetail → Option Byte
  | .parse _ _ _ _ => none
  | .dataId d _ => some d
  | .typeId t _ => some t
  | .typeLen t _ _ => some t

/-- The warning pushed with a non-fatal error (R183, R233). -/
def NfError.warning (e : NfError) : Warning := ⟨e.reason.warnTag, e.detail.arg⟩

/-- The shape of a non-fatal error: its stage, and a detail mapping with the names of its reason, within their widths
(R34, R232). -/
def NfError.wf (e : NfError) : Bool :=
  e.stage == .payloadParse &&
  match e.reason, e.detail with
  | .recordParseFailed, .parse _ o n h => decide (o < 65536) && decide (n < 256) && decide (h < n)
  | .unknownDataId, .dataId _ o => decide (o < 65536)
  | .rtu800ExtendedId, .dataId d o => inBlock 10 14 d && decide (o < 65536)
  | .unknownTypeId, .typeId _ o => decide (o < 256)
  | .eventTypeLenMismatch, .typeLen _ e a => (e == 1 || e == 4) && decide (a < e)
  | _, _ => false

/-! ### The invariant -/

/-- The cursors of a walk stay inside its buffer, the buffer inside IBUF's capacity (R20, R27, R160, R202, R206). -/
def walkWf (s : State) : Bool :=
  match s.walk with
  | .idle => true
  | .stuffing sc => decide (sc.i ≤ sc.buf.length) && decide (sc.buf.length ≤ Config.BUF_CAP) &&
      decide (sc.out.length ≤ 2 * sc.i)
  | .unstuffing sc => decide (sc.i ≤ sc.buf.length) && decide (sc.buf.length ≤ Config.BUF_CAP) &&
      decide (sc.out.length ≤ sc.i)
  | .records P => decide (s.off ≤ P.length) && decide (P.length ≤ Config.BUF_CAP)
  | .entries d p es => decide (p ≤ d.length) && decide (d.length ≤ 255) && es.all (·.wf Config.evtLen)

/-- What holds in every state the machine reaches, whatever the host writes between commands. -/
structure Inv (s : State) : Prop where
  /-- IBUF keeps its canonical form (log 4). -/
  ibuf : Memory.wf s.ibuf = true
  /-- BUSY is 1 exactly from the write of CMD until the command ends, and then it is the only flag (R22, R60). -/
  busy : s.status.busy = true ↔ s.cmdPending = true ∨ s.walk ≠ .idle
  busyAlone : s.status.busy = true → s.status = Status.started
  /-- A pending command has started: no walk, and no result of an earlier command (R11). -/
  pending : s.cmdPending = true → s.walk = .idle ∧ s.res = {} ∧ s.keyRequests = []
  /-- "Exactly one of OK, FATAL, CMD_ERR is 1 when DONE is 1" (R22). -/
  ends : s.status.ends = s.status.done.toNat
  /-- FRAME_OK and CRC_OK are equal, and are set only with OK (R23). -/
  integrity : s.status.crcOk = s.status.frameOk ∧ (s.status.frameOk = true → s.status.ok = true)
  /-- OLEN is the length of OBUF (R27). -/
  olen : s.res.olen.toNat = s.res.obuf.length
  /-- ERR is latched exactly by a fatal error, with the stage tag of its reason and the device id if known
  (R26, R231, R240). -/
  errIdle : s.status.fatal = false → s.res.err = {}
  errSet : s.status.fatal = true → s.res.err.reason ≠ .none ∧ s.res.err.stage = s.res.err.reason.stage ∧
    s.res.err.devidValid = s.status.devidValid ∧ s.res.err.devid = s.res.devid
  /-- After a fatal error every result but ERR and DEVID is cleared (R240). -/
  fatalClears : s.status.fatal = true →
    s.res = { devid := s.res.devid, err := s.res.err }
  /-- DEVID is 0 until it is valid (R24, R37). -/
  devid : s.status.devidValid = false → s.res.devid = 0
  /-- One warning for every non-fatal error, in order (R183). -/
  anomalies : s.res.warnq = s.res.errq.map NfError.warning
  errors : s.res.errq.all NfError.wf = true
  /-- Every record has the shape of its kind (R30 to R32). -/
  records : s.res.recq.all (·.wf Config.evtLen) = true
  /-- The walk's cursors (R20). -/
  walk : walkWf s = true

end Sys2Proof.Machine
end

