-- ==== Sys2Proof/Certificates/Slice0/Obligations.lean ====
section
/-! DEFINITION. The statements for the provers. `Claims` holds the lists and the small specifications the statements
share; each statement's docstring cites the rules of spec/ it formalises. -/

namespace Sys2Proof.Claims

open Sys2Proof.Machine

/-- The state of a command about to run, with its operand: no other command runs, CMD written or not yet, and
`IBUF[0..ILEN)` is `bs` (R41, R60, R278). -/
structure Ready (s : State) (bs : List Byte) : Prop where
  rest : mayStart s = true
  input : readInput s = .ok bs

/-- OBUF and OLEN after a command that writes them. -/
def outRes (bs : List Byte) : Results := { obuf := bs, olen := BitVec.ofNat 18 bs.length }

/-- What a successful command other than DECODE shows. -/
def okView (res : Results) : CommandView := { status := okStatus, res := res }

/-- The bytes of an item of a telemetry record: param id, length, data (R69). -/
def itemBytes (x : Byte × List Byte) : List Byte := [x.1, BitVec.ofNat 8 x.2.length] ++ x.2

/-- The item those bytes stand for (R30). -/
def itemOf (x : Byte × List Byte) : Item := ⟨x.1, BitVec.ofNat 8 x.2.length, x.2⟩

/-- An event as it is written: code, time, data. -/
structure RawEvent where
  code : Byte
  time : Word
  data : List Byte
  deriving DecidableEq, Repr

/-- The bytes of an event (R72). -/
def eventBytes (v : RawEvent) : List Byte := [v.code] ++ le32 v.time ++ [BitVec.ofNat 8 v.data.length] ++ v.data

/-- The events of an archive in turn, each parsed by the EventDataParser, with the queues it pushes to (R166, R205). -/
def eventsOf (par : Config.Params) : List RawEvent → List Warning → List NfError →
    List ArchiveEvent × List Warning × List NfError
  | [], w, e => ([], w, e)
  | v :: vs, w, e =>
    let c := parseEntries par v.data w e
    let r := eventsOf par vs c.warnq c.errq
    (⟨v.code, v.time, BitVec.ofNat 8 v.data.length, c.entries⟩ :: r.1, r.2)

/-- The illegal command codes (R62), with the code byte where a row covers several. -/
def illegalCommands (x : Byte) : List Instr :=
  [.illegalCmd00_00, .illegalCmd0C_0F x, .illegalCmd10_1F x, .illegalCmd20_3F x, .illegalCmd40_7F x, .illegalCmd80_FF x]

/-- The data ids of kind `unknown` (R172): instruction and id. -/
def unknownIds (x : Byte) : List (Instr × Byte) :=
  [(.unknown00_00, 0x00), (.unknown05_05, 0x05), (.unknown0F_0F, 0x0F), (.unknown10_1F x, x), (.unknown20_3F x, x),
   (.unknown40_7F x, x), (.unknown80_FF x, x)]

/-- The data ids of kind `rtu800_extended` (R171): instruction and id. -/
def extendedIds : List (Instr × Byte) :=
  [(.rtu800Extended10, 0x0A), (.rtu800Extended11, 0x0B), (.rtu800Extended12, 0x0C), (.rtu800Extended13, 0x0D),
   (.rtu800Extended14, 0x0E)]

/-- The symbols of `stuff` (R64, R120): instruction and what it appends. -/
def stuffSymbols (x : Byte) : List (Instr × List Byte) :=
  [(.stuffC0, [0xC4, 0xC1]), (.stuffC2, [0xC4, 0xC3]), (.stuffC4, [0xC4, 0xC4]),
   (.stuffLit00_7F x, [x]), (.stuffLit80_BF x, [x]), (.stuffLitC1_C1, [0xC1]), (.stuffLitC3_C3, [0xC3]),
   (.stuffLitC5_C5, [0xC5]), (.stuffLitC6_C7 x, [x]), (.stuffLitC8_CF x, [x]), (.stuffLitD0_DF x, [x]),
   (.stuffLitE0_FF x, [x])]

/-- The symbols of `unstuff` that append a byte (R64, R122, R125): instruction, byte, and the bytes it takes. -/
def unstuffSymbols (x : Byte) : List (Instr × Byte × Nat) :=
  [(.unstuffLit00_7F x, x, 1), (.unstuffLit80_BF x, x, 1), (.unstuffLitC0_C3 x, x, 1), (.unstuffLitC5_C5, 0xC5, 1),
   (.unstuffLitC6_C7 x, x, 1), (.unstuffLitC8_CF x, x, 1), (.unstuffLitD0_DF x, x, 1), (.unstuffLitE0_FF x, x, 1),
   (.unstuffEscC1, 0xC0, 2), (.unstuffEscC3, 0xC2, 2), (.unstuffEscC4, 0xC4, 2)]

/-- The illegal pairs in the input of `unstuff` (R122): instruction and second byte. -/
def badEscapes (x : Byte) : List (Instr × Byte) :=
  [(.unstuffBadEsc00_7F x, x), (.unstuffBadEsc80_BF x, x), (.unstuffBadEscC0_C0, 0xC0), (.unstuffBadEscC2_C2, 0xC2),
   (.unstuffBadEscC5_C5, 0xC5), (.unstuffBadEscC6_C7 x, x), (.unstuffBadEscC8_CF x, x), (.unstuffBadEscD0_DF x, x),
   (.unstuffBadEscE0_FF x, x)]

/-- The entry types (R201, R202): instruction and type id. -/
def entryTypes (x : Byte) : List (Instr × Byte) :=
  [(.entryType0, 0x00), (.entryType20, 0x14), (.entryTypeOther01_01, 0x01), (.entryTypeOther02_03 x, x),
   (.entryTypeOther04_07 x, x), (.entryTypeOther08_0F x, x), (.entryTypeOther10_13 x, x), (.entryTypeOther15_15, 0x15),
   (.entryTypeOther16_17 x, x), (.entryTypeOther18_1F x, x), (.entryTypeOther20_3F x, x), (.entryTypeOther40_7F x, x),
   (.entryTypeOther80_FF x, x)]

/-- The results of EVPARSE on data of `n` bytes (R206). -/
def evparseRes (s : State) (n : Nat) (entries : List EventEntry) (w : List Warning) (e : List NfError) : Results :=
  { s.res with recq := [.archive 0 [⟨0, 0, BitVec.ofNat 8 n, entries⟩]], warnq := w, errq := e }

/-- The results after a record pushed in a walk. -/
def pushed (s : State) (r : Record) : Results := { s.res with recq := s.res.recq ++ [r] }

/-- The results after a record pushed with its warning and its non-fatal error (R171, R172, R180). -/
def pushedWith (s : State) (r : Record) (w : Warning) (e : NfError) : Results :=
  { s.res with recq := s.res.recq ++ [r], warnq := s.res.warnq ++ [w], errq := s.res.errq ++ [e] }

/-- What a local parse failure of the data id `id` leaves (R180): a read of `need` bytes at `pos` found only the bytes
`rest`, the end of the payload. -/
def degraded (s : State) (id : Byte) (pos need : Nat) (rest : List Byte) : CommandView :=
  symbolEnd s s.status.endOk
    (pushedWith s (.unknown id rest) ⟨.payloadParseError, none⟩
      ⟨.payloadParse, .recordParseFailed, .parse id pos need rest.length⟩)

/-- A record instruction with its tag byte and the fixed bytes after it ran out of payload: what a cut record of
`need` wanted and `rest` present bytes after `done` complete ones leaves (R162, R180), OFF at the end (log 12). -/
def Degrades (i : Instr) (id : Byte) (done rest : List Byte) (need : Nat) : Prop :=
  ∀ (s : State) (before : List Byte), s.walk = .records (before ++ [id] ++ done ++ rest) → s.off = before.length →
    rest.length < need →
    EndsAt i s (degraded s id (before ++ [id] ++ done).length need rest) (before ++ [id] ++ done ++ rest).length

/-- An archive whose payload is `read ++ rest`, cut at a read of `need` bytes after `read`, the events `vs` complete:
no archive is pushed, the anomalies of `vs` stay, and the local parse failure follows them (R166, R180), OFF at the end
(log 12). -/
def ArchiveCut (s : State) (vs : List RawEvent) (read rest : List Byte) (need : Nat) : Prop :=
  s.walk = .records (read ++ rest) →
    let q := (eventsOf Config.params vs s.res.warnq s.res.errq).2
    EndsAt .archive s
      (symbolEnd s s.status.endOk
        { s.res with
          recq := s.res.recq ++ [.unknown 0x03 rest]
          warnq := q.1 ++ [⟨.payloadParseError, none⟩]
          errq := q.2 ++ [⟨.payloadParse, .recordParseFailed, .parse 0x03 read.length need rest.length⟩] })
      (read ++ rest).length

/-- One turn of R104's loop, in the rule's arithmetic: V0 from V1 and the key word of bits 1:0 of S, then S, then V1 from
the new V0 and the key word of bits 12:11 of the new S. -/
def encryptTurn (c : Cipher) : Cipher :=
  let key := fun n : Word => c.k.toList.getD n.toNat 0
  let v0 := c.v0 + (((c.v1 <<< 4 ^^^ c.v1 >>> 5) + c.v1) ^^^ (c.s + key (c.s &&& 3#32)))
  let s := c.s + 0x9E3779B9#32
  let v1 := c.v1 + (((v0 <<< 4 ^^^ v0 >>> 5) + v0) ^^^ (s + key (s >>> 11 &&& 3#32)))
  { v0 := v0, v1 := v1, s := s, k := c.k }

/-- One turn of R103's loop, in the rule's arithmetic. -/
def decryptTurn (c : Cipher) : Cipher :=
  let key := fun n : Word => c.k.toList.getD n.toNat 0
  let v1 := c.v1 - (((c.v0 <<< 4 ^^^ c.v0 >>> 5) + c.v0) ^^^ (c.s + key (c.s >>> 11 &&& 3#32)))
  let s := c.s - 0x9E3779B9#32
  let v0 := c.v0 - (((v1 <<< 4 ^^^ v1 >>> 5) + v1) ^^^ (s + key (s &&& 3#32)))
  { v0 := v0, v1 := v1, s := s, k := c.k }

/-- The two states agree on what a command may depend on (R11, R36, R41): configuration, input, resolver. -/
structure SameOperands (s t : State) : Prop where
  rounds : s.rounds = t.rounds
  crcInit : s.crcInit = t.crcInit
  key : s.key = t.key
  devidIn : s.devidIn = t.devidIn
  ilen : s.ilen = t.ilen
  input : readInput s = readInput t
  keyTable : s.keyTable = t.keyTable
  keyDefault : s.keyDefault = t.keyDefault

/-- The round count of a cipher run that is admitted (R16, R106). -/
def posRounds (s : State) : Nat := (roundsOf s).toNat

/-- A record kind that runs to the end of the payload, or to its padding (R71). -/
def runsToEnd : Record → Bool
  | .archive _ _ => true
  | .auth _ => true
  | .rtu800Extended _ _ => true
  | .unknown _ _ => true
  | _ => false

/-- The number a string of ASCII digits stands for. -/
def stringValue (ds : List Byte) : Nat := ds.foldl (fun n d => 10 * n + (d.toNat - 48)) 0

/-- The device id of a body, known once stage 3 has completed (R141). -/
def bodyId (body : List Byte) : BitVec 64 := LE64 (body.take 8)

end Sys2Proof.Claims

open Sys2Proof Sys2Proof.Machine Sys2Proof.Claims

/-! ### Decoding and stepping -/

/-- Every well-formed instruction is read back from its bytes, whatever admitted bytes follow (30_encoding.md R61,
R64, R70; 42_framer.md R122; 45_event_parser.md R202). -/
def Obligations.DecodeReadsBackEncode : Prop :=
  ∀ (i : Instr) (rest : List Byte), i.wf = true → i.fits rest = true → decode i.space (encode i ++ rest) = .ok i

/-- What the decoder reads is what stands there: the bytes are the instruction's, and what follows is admitted
(30_encoding.md, opening: the rows of a space are disjoint and cover every value). -/
def Obligations.EncodeWritesBackDecode : Prop :=
  ∀ (sp : Space) (bs : List Byte), bs ≠ [] →
    ∃ (i : Instr) (rest : List Byte), decode sp bs = .ok i ∧ i.wf = true ∧ i.space = sp ∧ bs = encode i ++ rest ∧
      i.fits rest = true

/-- Some words, written out from R61, R64, R70 and R201. -/
def Obligations.SomeWordsDecode : Prop :=
  decode .cmd [0x06] = .ok .decode ∧ decode .cmd [0x9A] = .ok (.illegalCmd80_FF 0x9A) ∧
  decode .record [0x09, 0x00] = .ok .telemetry ∧ decode .record [0x00, 0x05] = .ok .unknown00_00 ∧
  decode .record [0x00, 0x00] = .ok .pad ∧ decode .stuffIn [0xC2] = .ok .stuffC2 ∧
  decode .unstuffIn [0xC4, 0xC3, 0xC4] = .ok .unstuffEscC3 ∧ decode .unstuffIn [0xC4] = .ok .unstuffDangling ∧
  decode .entry [0x14, 0x05] = .ok .entryType20

/-- A step runs the decoded instruction: the pending command where no command runs (R60), else the symbol at the
cursor of the walk (R120, R122, R160, R202). -/
def Obligations.StepRunsDecodedInstruction : Prop :=
  ∀ (s : State) (i : Instr),
    (s.walk = .idle → s.cmdPending = true → decode .cmd [s.cmd] = .ok i → i.wf = true ∧ step s = exec i s) ∧
    (∀ sc, s.walk = .stuffing sc → decode .stuffIn (sc.buf.drop sc.i) = .ok i → i.wf = true ∧ step s = exec i s) ∧
    (∀ sc, s.walk = .unstuffing sc → decode .unstuffIn (sc.buf.drop sc.i) = .ok i → i.wf = true ∧ step s = exec i s) ∧
    (∀ P, s.walk = .records P → decode .record (P.drop s.off) = .ok i → i.wf = true ∧ step s = exec i s) ∧
    (∀ d p es, s.walk = .entries d p es → decode .entry (d.drop p) = .ok i → i.wf = true ∧ step s = exec i s)

/-- Where there is no instruction: with no command pending the CORE waits (the model's choice, log 9); at the end of
its buffer a walk's command ends with its results (R120, R122, R160, R202, R206), and OFF stays (log 12). -/
def Obligations.StepAtTheEndOfTheInput : Prop :=
  ∀ s : State,
    (s.walk = .idle → s.cmdPending = false → step s = .next s) ∧
    (∀ sc t, (s.walk = .stuffing sc ∨ s.walk = .unstuffing sc) → sc.buf.length ≤ sc.i → step s = .next t →
      Kept s t ∧ t.walk = .idle ∧ t.off = s.off ∧ viewOf t = symbolEnd s s.status.endOk
        { s.res with obuf := sc.out, olen := BitVec.ofNat 18 sc.out.length }) ∧
    (∀ P t, s.walk = .records P → P.length ≤ s.off → step s = .next t →
      Kept s t ∧ t.walk = .idle ∧ t.off = s.off ∧ viewOf t = symbolEnd s s.status.endOk s.res) ∧
    (∀ d p es t, s.walk = .entries d p es → d.length ≤ p → step s = .next t →
      Kept s t ∧ t.walk = .idle ∧ t.off = s.off ∧
      viewOf t = symbolEnd s s.status.endOk (evparseRes s d.length es s.res.warnq s.res.errq)) ∧
    (s.walk ≠ .idle → (fetchBytes s).2 = [] → ∃ t, step s = .next t)

/-! ### Reset and the invariant -/

/-- The values of 10_state.md R37 after reset, where it gives one, and reset by the host at any time (R270): it abandons
a command that runs; the resolver is the environment's and stays (the model's choice, log 8). -/
def Obligations.ResetLeavesTheStatedValues : Prop :=
  (State.reset.rounds = 32 ∧ State.reset.crcInit = 0xFFFF ∧ State.reset.ilen = 0 ∧ State.reset.status = {} ∧
    State.reset.stage = .none ∧ State.reset.off = 0 ∧ State.reset.work.body = [] ∧ State.reset.work.ct = [] ∧
    State.reset.work.pt = [] ∧ State.reset.res = {}) ∧
  (∀ s, hostAct .reset s = .next { State.reset with keyTable := s.keyTable, keyDefault := s.keyDefault })

/-- The invariant holds after reset (R22, R23, R26, R27, R37). -/
def Obligations.ResetHasTheInvariant : Prop := Inv State.reset

/-- Every step keeps the invariant: BUSY exactly from the write of CMD until the end (R22, R60), exactly one of OK,
FATAL and CMD_ERR at an end (R22), FRAME_OK = CRC_OK (R23), ERR exactly when FATAL, with everything else cleared (R26,
R240), OLEN the length of OBUF (R27), one warning for each non-fatal error (R183), well-formed records and errors (R30
to R34, R232), cursors inside their buffers (R20). -/
def Obligations.StepKeepsTheInvariant : Prop := ∀ s t : State, Inv s → step s = .next t → Inv t

/-- The host's writes keep the invariant, the canonical form of IBUF among it (R27, R277). -/
def Obligations.HostWritesKeepTheInvariant : Prop :=
  ∀ (w : HostWrite) (s t : State), Inv s → hostAct w s = .next t → Inv t

/-- What the host writes is what is read, and nothing else changes: ROUNDS, CRC_INIT, KEY, DEVID_IN, a byte of IBUF, ILEN,
an input with its length, the resolver (R16, R17, R19, R27, R276, R277). The write of CMD starts the command: STATUS is
BUSY alone and no result is left (R11, R22, R60); that its rules run in the next step is the model's choice (log 9). The
faults of a write outside IBUF (log 18) and the refusal of a write without the host's turn (R278, log 11) are the model's
choice as well. -/
def Obligations.HostWriteIsReadBack : Prop :=
  ∀ s : State,
    (hostTurn s = true →
      (∀ v, hostAct (.rounds v) s = .next { s with rounds := v }) ∧
      (∀ v, hostAct (.crcInit v) s = .next { s with crcInit := v }) ∧
      (∀ v, hostAct (.devidIn v) s = .next { s with devidIn := v }) ∧
      (∀ v, hostAct (.ilen v) s = .next { s with ilen := v }) ∧
      (∀ tbl d, hostAct (.resolver tbl d) s = .next { s with keyTable := tbl, keyDefault := d }) ∧
      (∀ (i : Fin 16) (v : Byte), ∃ t, hostAct (.keyByte i v) s = .next t ∧ t.key.get i = v ∧
        (∀ j, j ≠ i → t.key.get j = s.key.get j) ∧ t = { s with key := t.key }) ∧
      (∀ (a : Nat) (v : Byte),
        (a < 65535 → ∃ t, hostAct (.ibufByte a v) s = .next t ∧ memRead t.ibuf a = some v ∧
          (∀ b, b ≠ a → memRead t.ibuf b = memRead s.ibuf b) ∧ t = { s with ibuf := t.ibuf }) ∧
        (65535 ≤ a → hostAct (.ibufByte a v) s = .fault (.ibufOutOfRange a))) ∧
      (∀ bs : List Byte,
        (bs.length ≤ 65535 → ∃ t, hostAct (.input bs) s = .next t ∧ readInput t = .ok bs ∧
          (∀ b, bs.length ≤ b → memRead t.ibuf b = memRead s.ibuf b) ∧ t = { s with ibuf := t.ibuf, ilen := t.ilen }) ∧
        (65535 < bs.length → hostAct (.input bs) s = .fault (.ibufOutOfRange 65535))) ∧
      (∀ c, ∃ t, hostAct (.cmd c) s = .next t ∧ Kept { s with cmd := c } t ∧
        viewOf t = { status := { busy := true }, res := {}, pending := true } ∧ t.walk = .idle)) ∧
    (hostTurn s = false → ∀ w, w ≠ .reset → hostAct w s = .refused .hostWhileBusy)

/-! ### What no instruction touches, and on what a command depends -/

/-- No instruction writes ROUNDS, CRC_INIT, KEY, DEVID_IN, IBUF, ILEN, CMD or the resolver (R16, R17, R19, R27, R36). -/
def Obligations.NoInstructionWritesTheConfiguration : Prop :=
  ∀ (i : Instr) (s t : State), exec i s = .next t → Kept s t

/-- "No command's result depends on any earlier command" (R11), and a command reads nothing of IBUF but
`IBUF[0..ILEN)` (R41): from two states that agree on configuration, input and resolver, a command shows the same. OFF
too, which only PARSE and DECODE move; that it keeps its value after the command is the model's choice (log 12). -/
def Obligations.CommandsForgetEarlierCommands : Prop :=
  ∀ (i : Instr) (s₁ s₂ t₁ : State), i.isCommand = true → SameOperands s₁ s₂ → mayStart s₂ = true →
    exec i s₁ = .next t₁ →
    (∃ t₂, exec i s₂ = .next t₂ ∧ viewOf t₂ = viewOf t₁ ∧ t₂.walk = t₁.walk ∧ t₂.off = t₁.off) ∧
    (i ≠ .parse → i ≠ .decode → t₁.off = 0)

/-- A command while another runs has no meaning (R62, R278), and a symbol has none outside a walk of its own kind: with no
walk, or in a walk of another decode space (the model's refusals, log 2 and 11). -/
def Obligations.InstructionsOutOfTurnAreRefused : Prop :=
  ∀ (i : Instr) (s : State),
    (i.isCommand = true → s.status.busy = true → s.cmdPending = false → exec i s = .refused .commandWhileBusy) ∧
    (i.isCommand = false → s.walk = .idle → exec i s = .refused .outsideWalk) ∧
    (i.isCommand = false → i.space ≠ (fetchBytes s).1 → exec i s = .refused .outsideWalk)

/-- An input byte the host never wrote stops every command that reads it (R38, 93_implementation_defined.md U3; log 4):
the offset of the fault is the first such byte of `IBUF[0..ILEN)`. -/
def Obligations.UnwrittenInputStopsCommands : Prop :=
  ∀ (s : State) (a : Nat), mayStart s = true → a < s.ilen.toNat → memRead s.ibuf a = none →
    (∀ b, b < a → memRead s.ibuf b ≠ none) →
    (∀ i ∈ ([.crc16, .xteaEnc, .xteaDec, .stuff, .unstuff, .decode, .parse, .prep, .frame, .build] : List Instr),
      exec i s = .fault (.ibufUnwritten a)) ∧
    (s.ilen.toNat ≤ 255 → exec .evparse s = .fault (.ibufUnwritten a))

/-- An illegal command (R62): each value of CMD but 0x01 to 0x0B is one; it clears the results as any start does, sets
CMD_ERR and DONE, clears BUSY and changes nothing else; while a command runs neither the command nor the host's write of
CMD has a move. -/
def Obligations.IllegalCommandsSetCmdErr : Prop :=
  (∀ c : Byte, (c = 0 ∨ 0x0C ≤ c.toNat) → ∃ i ∈ illegalCommands c, decode .cmd [c] = .ok i) ∧
  (∀ (x : Byte) (i : Instr) (s : State), i ∈ illegalCommands x →
    (mayStart s = true → EndsWith i s { status := cmdErrStatus, res := {} } ∧
      ∀ t, exec i s = .next t → t.work = { s.work with body := [], ct := [], pt := [] } ∧ t.free = s.free) ∧
    (mayStart s = false → exec i s = .refused .commandWhileBusy)) ∧
  (∀ (c : Byte) (s : State), s.status.busy = true → hostAct (.cmd c) s = .refused .hostWhileBusy)

/-! ### Checksum -/

/-- CRC16 (40_crc16.md R92), code 0x01: it ends OK on every input, CRC_OUT is the checksum of the input from CRC_INIT,
OBUF stays empty; an empty input gives CRC_INIT, a message may be taken in pieces, and the rule's worked example. -/
def Obligations.Crc16Completes : Prop :=
  decode .cmd [0x01] = .ok .crc16 ∧
  (∀ (s : State) (bs : List Byte), Ready s bs → EndsWith .crc16 s (okView { crcOut := crc16 bs s.crcInit })) ∧
  (∀ init, crc16 [] init = init) ∧
  (∀ (xs ys : List Byte) (init : BitVec 16), crc16 (xs ++ ys) init = crc16 ys (crc16 xs init)) ∧
  crc16 [0x31, 0x32, 0x33, 0x34, 0x35, 0x36, 0x37, 0x38, 0x39] 0xFFFF = 0x29B1

/-- R91: a byte goes into bits 15:8 of the register, then eight shifts, each with an exclusive-or of 0x1021 where bit 15
was set before it; the register is the only state from byte to byte (R93). -/
def Obligations.ChecksumIsBitSerial : Prop :=
  ∀ (init : BitVec 16),
    crc16 [] init = init ∧
    (∀ (bs : List Byte) (b : Byte), crc16 (bs ++ [b]) init =
      (fun r : BitVec 16 => if r.msb then r <<< 1 ^^^ 0x1021#16 else r <<< 1)^[8]
        (crc16 bs init ^^^ ((b.setWidth 16) <<< 8))) ∧
    (∀ xs ys : List Byte, crc16 (xs ++ ys) init = crc16 ys (crc16 xs init))

/-- Two messages that differ in one byte have different checksums (from R91: every shift is undone by the one before
it, since the polynomial is odd). -/
def Obligations.OneWrongByteChangesTheChecksum : Prop :=
  ∀ (xs ys : List Byte) (b c : Byte) (init : BitVec 16), b ≠ c →
    crc16 (xs ++ [b] ++ ys) init ≠ crc16 (xs ++ [c] ++ ys) init

/-! ### CipherEngine -/

/-- The block functions are the loops of R103 and R104 in the rules' own arithmetic (R102), for every key and round
count; they undo each other, and leave S as the two rules say (R105 a). -/
def Obligations.CipherBlocksUndoEachOther : Prop :=
  ∀ (n : Nat) (c : Cipher),
    encryptBlock n c = encryptTurn^[n] { c with s := 0 } ∧
    decryptBlock n c = decryptTurn^[n] { c with s := 0x9E3779B9#32 * BitVec.ofNat 32 n } ∧
    ((decryptBlock n (encryptBlock n c)).v0 = c.v0 ∧ (decryptBlock n (encryptBlock n c)).v1 = c.v1) ∧
    ((encryptBlock n (decryptBlock n c)).v0 = c.v0 ∧ (encryptBlock n (decryptBlock n c)).v1 = c.v1) ∧
    (decryptBlock n c).s = 0 ∧ (encryptBlock n c).s = 0x9E3779B9#32 * BitVec.ofNat 32 n ∧
    (decryptBlock n c).k = c.k ∧ (encryptBlock n c).k = c.k

/-- ECB (R109): the output has the input's length, and its block `j` is the block function of block `j` of the input
under the key's words, whatever the registers held before and whatever the other blocks are. -/
def Obligations.EcbTakesEachBlockAlone : Prop :=
  ∀ (f : Nat → Cipher → Cipher) (n : Nat) (bs key : List Byte) (c₀ c₁ : Cipher), f = encryptBlock ∨ f = decryptBlock →
    bs.length % 8 = 0 →
    (ecb (f n) bs key c₀).1.length = bs.length ∧
    ∀ j, j < bs.length / 8 →
      slice (ecb (f n) bs key c₀).1 (8 * j) (8 * j + 8) =
        let r := f n
          { v0 := LE32 (slice bs (8 * j) (8 * j + 4)), v1 := LE32 (slice bs (8 * j + 4) (8 * j + 8)), s := c₁.s
            k := #v[LE32 (slice key 0 4), LE32 (slice key 4 8), LE32 (slice key 8 12), LE32 (slice key 12 16)] }
        le32 r.v0 ++ le32 r.v1

/-- "decrypt(encrypt(plaintext, key), key) == plaintext" for a length that is a multiple of 8 (R108). -/
def Obligations.DecryptUndoesEncrypt : Prop :=
  ∀ (n : Nat) (bs key : List Byte) (c₀ c₁ : Cipher), bs.length % 8 = 0 →
    (ecb (decryptBlock n) (ecb (encryptBlock n) bs key c₀).1 key c₁).1 = bs

/-- XTEA_ENC, code 0x02, and XTEA_DEC, code 0x03, complete (R107, R108): with a positive ROUNDS and a positive multiple
of 8 bytes, OBUF is the input encrypted or decrypted under KEY, whatever V0, V1, S and K held before; and the two rules'
worked examples. -/
def Obligations.CipherCommandsComplete : Prop :=
  decode .cmd [0x02] = .ok .xteaEnc ∧ decode .cmd [0x03] = .ok .xteaDec ∧
  (∀ (s : State) (bs : List Byte) (c : Cipher), Ready s bs → 0 < s.rounds.toInt → bs.length ≠ 0 → bs.length % 8 = 0 →
    EndsWith .xteaEnc s (okView (outRes (ecb (encryptBlock (posRounds s)) bs s.key.toList c).1)) ∧
    EndsWith .xteaDec s (okView (outRes (ecb (decryptBlock (posRounds s)) bs s.key.toList c).1))) ∧
  (∀ c : Cipher,
    let key : List Byte := [0, 1, 2, 3, 4, 5, 6, 7, 8, 9, 10, 11, 12, 13, 14, 15]
    let plain : List Byte := [0x41, 0x42, 0x43, 0x44, 0x45, 0x46, 0x47, 0x48]
    let cipher : List Byte := [0xCA, 0xE7, 0x69, 0x7E, 0x00, 0x6E, 0xE9, 0x21]
    (ecb (encryptBlock 32) plain key c).1 = cipher ∧ (ecb (decryptBlock 32) cipher key c).1 = plain)

/-- A cipher run that is not admitted (R106): the round count is checked first, then the length; the two commands end
FATAL with `cipher_failed`, no device id, no output (R107, R108, R240). -/
def Obligations.CipherCommandsAreTurnedAway : Prop :=
  ∀ (s : State) (bs : List Byte) (i : Instr), Ready s bs → i = .xteaEnc ∨ i = .xteaDec →
    (s.rounds.toInt ≤ 0 →
      EndsWith i s (fatalOutcome ⟨.cipherFailed, .cause .roundsNotPositive⟩ none .none [])) ∧
    (0 < s.rounds.toInt → bs.length % 8 ≠ 0 ∨ bs = [] →
      EndsWith i s (fatalOutcome ⟨.cipherFailed, .cause .badLength⟩ none .none []))

/-! ### Framer -/

/-- "unstuff(stuff(x)) == x for every byte sequence x" (R124); the converse does not hold for every `y` on which
`unstuff` succeeds. -/
def Obligations.UnstuffUndoesStuff : Prop :=
  (∀ x : List Byte, unstuff (stuff x) = .ok x) ∧ (∃ y x : List Byte, unstuff y = .ok x ∧ stuff x ≠ y)

/-- The length of `stuff` and the bytes it never emits (R120). -/
def Obligations.StuffedBytesHoldNoMarker : Prop :=
  ∀ x : List Byte,
    (stuff x).length = x.length + x.countP (fun b => b == 0xC0 || b == 0xC2 || b == 0xC4) ∧
    (stuff x).length ≤ 2 * x.length ∧ 0xC0 ∉ stuff x ∧ 0xC2 ∉ stuff x

/-- `unstuff` from the left (R122): once the bytes before are read, a byte other than 0xC4 is copied, a legal pair gives
its byte, an 0xC4 at the end is `dangling_escape_byte`, another pair is `invalid_escape_sequence`, whatever follows;
the offset is that of the 0xC4. -/
def Obligations.UnstuffReadsFromTheLeft : Prop :=
  unstuff [] = .ok [] ∧
  ∀ (before out : List Byte), unstuff before = .ok out →
    (∀ b : Byte, b ≠ 0xC4 → unstuff (before ++ [b]) = .ok (out ++ [b])) ∧
    unstuff (before ++ [0xC4, 0xC1]) = .ok (out ++ [0xC0]) ∧
    unstuff (before ++ [0xC4, 0xC3]) = .ok (out ++ [0xC2]) ∧
    unstuff (before ++ [0xC4, 0xC4]) = .ok (out ++ [0xC4]) ∧
    unstuff (before ++ [0xC4]) = .error ⟨.danglingEscapeByte, .offset before.length⟩ ∧
    (∀ (n : Byte) (after : List Byte), n ≠ 0xC1 → n ≠ 0xC3 → n ≠ 0xC4 →
      unstuff (before ++ [0xC4, n] ++ after) = .error ⟨.invalidEscapeSequence, .escape before.length n⟩)

/-- STUFF (R121), code 0x04: it ends OK on every input with `stuff` of it in OBUF, no markers added; the corner cases
and the worked example. -/
def Obligations.StuffCompletes : Prop :=
  decode .cmd [0x04] = .ok .stuff ∧
  (∀ (s : State) (bs : List Byte), Ready s bs → EndsWith .stuff s (okView (outRes (stuff bs)))) ∧
  stuff [] = [] ∧
  (∀ bs : List Byte, (∀ b ∈ bs, b = 0xC0 ∨ b = 0xC2 ∨ b = 0xC4) → (stuff bs).length = 2 * bs.length) ∧
  stuff [0x11, 0xC0, 0x22, 0xC2, 0x33, 0xC4, 0x44] = [0x11, 0xC4, 0xC1, 0x22, 0xC4, 0xC3, 0x33, 0xC4, 0xC4, 0x44]

/-- UNSTUFF (R123), code 0x05: it ends OK with `unstuff` of its input where that succeeds, and else FATAL with its
error, stage tag `unstuff`, no device id, no output; the corner cases and the worked example. -/
def Obligations.UnstuffEnds : Prop :=
  decode .cmd [0x05] = .ok .unstuff ∧
  (∀ (s : State) (bs : List Byte), Ready s bs →
    (∀ out, unstuff bs = .ok out → EndsWith .unstuff s (okView (outRes out))) ∧
    (∀ e, unstuff bs = .error e → EndsWith .unstuff s (fatalOutcome e none .none []))) ∧
  (∀ bs e, unstuff bs = .error e → e.reason.stage = .unstuff) ∧
  unstuff [] = .ok [] ∧
  unstuff [0xC4, 0xC4, 0xC4] = .error ⟨.danglingEscapeByte, .offset 2⟩ ∧
  unstuff [0xC4, 0xC1, 0xC4, 0xC5] = .error ⟨.invalidEscapeSequence, .escape 2 0xC5⟩ ∧
  unstuff [0x11, 0xC4, 0xC1, 0x22, 0xC4, 0xC3, 0x33, 0xC4, 0xC4, 0x44] =
    .ok [0x11, 0xC0, 0x22, 0xC2, 0x33, 0xC4, 0x44]

/-- Each symbol of `stuff` appends what the table gives and moves on by one byte (R64, R120). -/
def Obligations.StuffSymbolsComplete : Prop :=
  ∀ (x : Byte) (r : Instr × List Byte) (s : State) (sc : Scan), r ∈ stuffSymbols x → s.walk = .stuffing sc →
    exec r.1 s = .next { s with walk := .stuffing { buf := sc.buf, i := sc.i + 1, out := sc.out ++ r.2 } }

/-- Each symbol of `unstuff` that is no error appends its byte and moves on by the bytes it takes (R64, R122, R125). -/
def Obligations.UnstuffSymbolsComplete : Prop :=
  ∀ (x : Byte) (r : Instr × Byte × Nat) (s : State) (sc : Scan), r ∈ unstuffSymbols x → s.walk = .unstuffing sc →
    exec r.1 s = .next { s with walk := .unstuffing { buf := sc.buf, i := sc.i + r.2.2, out := sc.out ++ [r.2.1] } }

/-- Each illegal pair, and an 0xC4 at the end, ends the command FATAL with its reason, offset and byte (R122, R240); OFF
stays (log 12). -/
def Obligations.BadEscapesAbort : Prop :=
  ∀ (x : Byte) (r : Instr × Byte) (s : State) (sc : Scan), r ∈ badEscapes x → s.walk = .unstuffing sc →
    s.status = Status.started → s.res = {} → s.cmdPending = false →
    EndsAt r.1 s (fatalOutcome ⟨.invalidEscapeSequence, .escape sc.i r.2⟩ none s.stage s.keyRequests) s.off ∧
    EndsAt .unstuffDangling s (fatalOutcome ⟨.danglingEscapeByte, .offset sc.i⟩ none s.stage s.keyRequests) s.off

/-! ### EventDataParser -/

/-- EVT_LEN (R201): exactly 52 ids have an entry, every length is 1 or 4, those of 0 and 20 are 4 and 1; the rest is
open (log 7). -/
def Obligations.EventTableHasItsConstraints : Prop :=
  ((List.range 256).countP fun n => (Config.evtLen (BitVec.ofNat 8 n)).isSome) = 52 ∧
  (∀ t l, Config.evtLen t = some l → l.toNat = 1 ∨ l.toNat = 4) ∧
  Config.evtLen 0 = some .four ∧ Config.evtLen 20 = some .one

/-- The entry parser (R202, R203, R204), for every table with the two entries R201 gives: complete entries packed end
to end are read one by one, with no anomaly; an id without an entry, or one whose value is cut, is marked, takes the
rest, and pushes one warning and one non-fatal error. -/
def Obligations.EntriesAreReadInOrder : Prop :=
  ∀ (par : Config.Params) (xs : List (Byte × List Byte)) (w : List Warning) (e : List NfError),
    par.evtLen 0 = some .four → par.evtLen 20 = some .one →
    (∀ x ∈ xs, ∃ l, par.evtLen x.1 = some l ∧ x.2.length = l.toNat) →
    let d := xs.flatMap fun x => x.1 :: x.2
    let es := xs.map fun x => (⟨x.1, .value, x.2⟩ : EventEntry)
    ((parseEntries par d w e).entries = es ∧ (parseEntries par d w e).warnq = w ∧ (parseEntries par d w e).errq = e) ∧
    (∀ (t : Byte) (rest : List Byte), par.evtLen t = none →
      let c := parseEntries par (d ++ t :: rest) w e
      c.entries = es ++ [⟨t, .unknown, rest⟩] ∧ c.warnq = w ++ [⟨.unknownTypeId, some t⟩] ∧
      c.errq = e ++ [⟨.payloadParse, .unknownTypeId, .typeId t d.length⟩]) ∧
    (∀ (t : Byte) (l : Config.EvtLen) (rest : List Byte), par.evtLen t = some l → rest.length < l.toNat →
      let c := parseEntries par (d ++ t :: rest) w e
      c.entries = es ++ [⟨t, .lenMismatch, rest⟩] ∧ c.warnq = w ++ [⟨.eventTypeLenMismatch, some t⟩] ∧
      c.errq = e ++ [⟨.payloadParse, .eventTypeLenMismatch, .typeLen t l.toNat rest.length⟩])

/-- EVPARSE (R206), code 0x08: it ends OK with one pseudo-record with the entries of the input; above 255 bytes it is
turned away with CMD_ERR and does nothing. That it then leaves the results as the start of a command cleared them (R11),
and is turned away before its input is read, is the model's choice (log 17). -/
def Obligations.EvparseEnds : Prop :=
  decode .cmd [0x08] = .ok .evparse ∧
  ∀ s : State, mayStart s = true →
    (∀ bs, readInput s = .ok bs → s.ilen.toNat ≤ 255 →
      EndsWith .evparse s (okView
        { recq := [.archive 0 [⟨0, 0, BitVec.ofNat 8 bs.length, (parseEntries Config.params bs [] []).entries⟩]]
          warnq := (parseEntries Config.params bs [] []).warnq
          errq := (parseEntries Config.params bs [] []).errq })) ∧
    (255 < s.ilen.toNat → EndsWith .evparse s { status := cmdErrStatus, res := {} })

/-- Each entry as an instruction (R202, R203, R204): with its value all there it is read and the walk goes on; with its
value cut, or no EVT_LEN entry, it is marked and EVPARSE ends, OFF as it stands (log 12). -/
def Obligations.EntrySymbolsComplete : Prop :=
  ∀ (x : Byte) (r : Instr × Byte) (s : State) (before rest : List Byte) (es : List EventEntry), r ∈ entryTypes x →
    s.walk = .entries (before ++ r.2 :: rest) before.length es →
    match Config.evtLen r.2 with
    | some l =>
      (l.toNat ≤ rest.length →
        exec r.1 s = .next { s with
          walk := .entries (before ++ r.2 :: rest) (before.length + 1 + l.toNat)
            (es ++ [⟨r.2, .value, rest.take l.toNat⟩]) }) ∧
      (rest.length < l.toNat →
        EndsAt r.1 s (symbolEnd s s.status.endOk
          (evparseRes s (before ++ r.2 :: rest).length (es ++ [⟨r.2, .lenMismatch, rest⟩])
            (s.res.warnq ++ [⟨.eventTypeLenMismatch, some r.2⟩])
            (s.res.errq ++ [⟨.payloadParse, .eventTypeLenMismatch, .typeLen r.2 l.toNat rest.length⟩]))) s.off)
    | none =>
      EndsAt r.1 s (symbolEnd s s.status.endOk
        (evparseRes s (before ++ r.2 :: rest).length (es ++ [⟨r.2, .unknown, rest⟩])
          (s.res.warnq ++ [⟨.unknownTypeId, some r.2⟩])
          (s.res.errq ++ [⟨.payloadParse, .unknownTypeId, .typeId r.2 before.length⟩]))) s.off

/-! ### PayloadDecoder -/

/-- PARSE completes on every input (R160): OK, the queues and PAD_LEN of the walk, OBUF empty. That OFF stays after the
command where the walk left it is the model's choice (log 12). -/
def Obligations.ParseCompletes : Prop :=
  ∀ (s : State) (bs : List Byte), Ready s bs →
    EndsAt .parse s
      (okView
        { padLen := (parse Config.params bs).padLen
          recq := (parse Config.params bs).recq
          warnq := (parse Config.params bs).warnq
          errq := (parse Config.params bs).errq })
      (parse Config.params bs).off

/-- The records of fixed layout (R163, R164, R165, R167, R168), with all their bytes: the record is pushed, OFF moves by
its size, nothing else changes. -/
def Obligations.FixedRecordsComplete : Prop :=
  ∀ (s : State) (before after data : List Byte) (pid res len seq : Byte), s.off = before.length →
    data.length = len.toNat →
    (s.walk = .records (before ++ [0x01, pid, len] ++ data ++ after) →
      exec .configCommand s =
        .next { s with off := s.off + 3 + len.toNat, res := pushed s (.configCommand pid len data) }) ∧
    (s.walk = .records (before ++ [0x06, pid, len] ++ data ++ after) →
      exec .readCommand s =
        .next { s with off := s.off + 3 + len.toNat, res := pushed s (.readCommand pid len data) }) ∧
    (s.walk = .records (before ++ [0x02, pid, res] ++ after) →
      exec .configResponse s = .next { s with off := s.off + 3, res := pushed s (.configResponse pid res) }) ∧
    (s.walk = .records (before ++ [0x04, seq] ++ after) →
      exec .archiveAck s = .next { s with off := s.off + 2, res := pushed s (.archiveAck seq) }) ∧
    (s.walk = .records (before ++ [0x07, pid, res, len] ++ data ++ after) →
      exec .readResponse s =
        .next { s with off := s.off + 4 + len.toNat, res := pushed s (.readResponse pid res len data) })

/-- A telemetry record with all its items (R170): the count and the items in order; OFF moves by the record's size. -/
def Obligations.TelemetryCompletes : Prop :=
  ∀ (s : State) (before after : List Byte) (xs : List (Byte × List Byte)), s.off = before.length → xs.length ≤ 255 →
    (∀ x ∈ xs, x.2.length ≤ 255) →
    s.walk = .records (before ++ [0x09, BitVec.ofNat 8 xs.length] ++ xs.flatMap itemBytes ++ after) →
    exec .telemetry s =
      .next { s with
        off := s.off + 2 + (xs.flatMap itemBytes).length
        res := pushed s (.telemetry (BitVec.ofNat 8 xs.length) (xs.map itemOf)) }

/-- An archive record with all its events (R166): the events up to the end of the payload or to an all-zero remainder,
their entries parsed and their anomalies queued (R205); OFF moves to the padding. -/
def Obligations.ArchiveCompletes : Prop :=
  ∀ (s : State) (before : List Byte) (seq : Byte) (vs : List RawEvent) (n : Nat), s.off = before.length →
    (∀ v ∈ vs, v.data.length ≤ 255) → (∀ v, vs.getLast? = some v → allZero (eventBytes v) = false) →
    s.walk = .records (before ++ [0x03, seq] ++ vs.flatMap eventBytes ++ zeros n) →
    exec .archive s =
      .next { s with
        off := s.off + 2 + (vs.flatMap eventBytes).length
        res :=
          { s.res with
            recq := s.res.recq ++ [.archive seq (eventsOf Config.params vs s.res.warnq s.res.errq).1]
            warnq := (eventsOf Config.params vs s.res.warnq s.res.errq).2.1
            errq := (eventsOf Config.params vs s.res.warnq s.res.errq).2.2 } }

/-- The records that take the rest of the payload (R169, R171, R172): `auth` without an anomaly, `rtu800_extended` and
`unknown` with a warning and a non-fatal error that name the id and the offset of the tag byte; OFF at the end. -/
def Obligations.RestTakingRecordsComplete : Prop :=
  ∀ (s : State) (before raw : List Byte), s.off = before.length →
    (s.walk = .records (before ++ [0x08] ++ raw) →
      exec .auth s = .next { s with off := (before ++ [0x08] ++ raw).length, res := pushed s (.auth raw) }) ∧
    (∀ r ∈ extendedIds, s.walk = .records (before ++ [r.2] ++ raw) →
      exec r.1 s = .next { s with
        off := (before ++ [r.2] ++ raw).length
        res := pushedWith s (.rtu800Extended r.2 raw) ⟨.rtu800ExtendedId, some r.2⟩
          ⟨.payloadParse, .rtu800ExtendedId, .dataId r.2 before.length⟩ }) ∧
    (∀ x, ∀ r ∈ unknownIds x, s.walk = .records (before ++ [r.2] ++ raw) →
      exec r.1 s = .next { s with
        off := (before ++ [r.2] ++ raw).length
        res := pushedWith s (.unknown r.2 raw) ⟨.unknownDataId, some r.2⟩
          ⟨.payloadParse, .unknownDataId, .dataId r.2 before.length⟩ })

/-- Padding (R161, R25): an all-zero remainder is read as PAD, and PAD ends PARSE with OK, PAD_LEN the number of bytes
left, no record pushed; OFF stays (log 12). -/
def Obligations.PaddingEndsTheWalk : Prop :=
  ∀ (s : State) (before : List Byte) (n : Nat), 0 < n → s.walk = .records (before ++ zeros n) → s.off = before.length →
    decode .record ((before ++ zeros n).drop s.off) = .ok .pad ∧
    EndsAt .pad s (symbolEnd s s.status.endOk { s.res with padLen := n }) s.off

/-- A record cut at a fixed-size read (R162, R180), at each read of each kind of fixed layout: one warning, one non-fatal
error with the offset, the bytes wanted and the bytes left, one `unknown` record with the rest, and PARSE ends OK, OFF at
the end (log 12). -/
def Obligations.CutRecordsDegrade : Prop :=
  ∀ (a b len : Byte) (rest : List Byte),
    (∀ r ∈ ([(.configCommand, 0x01), (.readCommand, 0x06)] : List (Instr × Byte)),
      Degrades r.1 r.2 [] rest 1 ∧ Degrades r.1 r.2 [a] rest 1 ∧ Degrades r.1 r.2 [a, len] rest len.toNat) ∧
    (Degrades .configResponse 0x02 [] rest 1 ∧ Degrades .configResponse 0x02 [a] rest 1) ∧
    Degrades .archiveAck 0x04 [] rest 1 ∧
    (Degrades .readResponse 0x07 [] rest 1 ∧ Degrades .readResponse 0x07 [a] rest 1 ∧
      Degrades .readResponse 0x07 [a, b] rest 1 ∧ Degrades .readResponse 0x07 [a, b, len] rest len.toNat)

/-- A telemetry record cut after some complete items (R170, R180): the items read are dropped with the record; OFF at
the end (log 12). -/
def Obligations.CutTelemetryDropsItsItems : Prop :=
  ∀ (count a len : Byte) (xs : List (Byte × List Byte)) (rest : List Byte), xs.length < count.toNat →
    (∀ x ∈ xs, x.2.length ≤ 255) →
    Degrades .telemetry 0x09 [] rest 1 ∧
    Degrades .telemetry 0x09 (count :: xs.flatMap itemBytes) rest 1 ∧
    Degrades .telemetry 0x09 (count :: xs.flatMap itemBytes ++ [a]) rest 1 ∧
    Degrades .telemetry 0x09 (count :: xs.flatMap itemBytes ++ [a, len]) rest len.toNat

/-- An archive cut at any read that can fail (R166, R180): at its sequence number, and, after complete events, at the
4-byte time, the length byte or the data of the next event. No archive is pushed, the events read are dropped, their
warnings and non-fatal errors stay; OFF at the end (log 12). The code byte of an event is there whenever an event is
read, and a remainder of zeros is padding, not a cut event. -/
def Obligations.CutArchiveKeepsItsAnomalies : Prop :=
  ∀ (s : State) (before rest : List Byte) (seq code len : Byte) (time : Word) (vs : List RawEvent),
    s.off = before.length → (∀ v ∈ vs, v.data.length ≤ 255) →
    let read := before ++ [0x03, seq] ++ vs.flatMap eventBytes
    ArchiveCut s [] (before ++ [0x03]) [] 1 ∧
    (rest.length < 4 → allZero (code :: rest) = false → ArchiveCut s vs (read ++ [code]) rest 4) ∧
    (allZero (code :: le32 time) = false → ArchiveCut s vs (read ++ [code] ++ le32 time) [] 1) ∧
    (rest.length < len.toNat → ArchiveCut s vs (read ++ [code] ++ le32 time ++ [len]) rest len.toNat)

/-- "every offset strictly advances" and none passes the end (R20, R160): a record that is read completes; OFF moves
forward inside the payload, and stays only at padding, which ends the walk (its value once PARSE has ended: log 12). -/
def Obligations.RecordsMoveForward : Prop :=
  ∀ (s : State) (P : List Byte) (i : Instr), s.walk = .records P → decode .record (P.drop s.off) = .ok i →
    ∃ t, exec i s = .next t ∧ t.off ≤ P.length ∧
      ((i = .pad ∧ t.off = s.off ∧ t.walk = .idle) ∨ (i ≠ .pad ∧ s.off < t.off))

/-- What comes last (R71, R181, R183): a record that runs to the end of the payload is the last record, and a local parse
failure is the last non-fatal error. -/
def Obligations.WhatEndsTheWalkComesLast : Prop :=
  ∀ (par : Config.Params) (P : List Byte),
    (∀ xs r ys, (parse par P).recq = xs ++ r :: ys → runsToEnd r = true → ys = []) ∧
    (∀ xs e ys, (parse par P).errq = xs ++ e :: ys → e.reason = .recordParseFailed → ys = [])

/-! ### FrameBuilder -/

/-- PREP (R216), code 0x09: it ends OK on every input with the payload, the least zero padding that makes the length
with the trailer a multiple of 8, and the checksum of the padded payload, low byte first; the corner cases and the
worked example. -/
def Obligations.PrepCompletes : Prop :=
  decode .cmd [0x09] = .ok .prep ∧
  (∀ (s : State) (bs : List Byte), Ready s bs →
    ∃ k, k < 8 ∧ (bs.length + k + 2) % 8 = 0 ∧ (∀ j, (bs.length + j + 2) % 8 = 0 → k ≤ j) ∧
      (bs.length % 8 = 6 → k = 0) ∧
      EndsWith .prep s (okView (outRes (bs ++ zeros k ++ le16 (crc16 (bs ++ zeros k) 0xFFFF))))) ∧
  preparePlaintext [] = [0, 0, 0, 0, 0, 0, 0x10, 0x0E] ∧
  preparePlaintext [0x04, 0x07] = [0x04, 0x07, 0, 0, 0, 0, 0x65, 0x6F]

/-- FRAME (R218), code 0x0A: it ends OK on every input with the start marker, the stuffed device id and body, the end
marker; an empty body gives 10 to 18 bytes; the worked example. -/
def Obligations.FrameCompletes : Prop :=
  decode .cmd [0x0A] = .ok .frame ∧
  (∀ (s : State) (bs : List Byte), Ready s bs →
    EndsWith .frame s (okView (outRes ([0xC0] ++ stuff (le64 s.devidIn ++ bs) ++ [0xC2])))) ∧
  (∀ d : BitVec 64, 10 ≤ (buildFrame d []).length ∧ (buildFrame d []).length ≤ 18) ∧
  buildFrame 863703030668235 [0x04, 0xA7, 0x14, 0x73, 0x43, 0x2A, 0x2C, 0x59] =
    [0xC0, 0xCB, 0x9B, 0x55, 0x88, 0x88, 0x11, 0x03, 0x00, 0x04, 0xA7, 0x14, 0x73, 0x43, 0x2A, 0x2C, 0x59, 0xC2]

/-- BUILD (R220): PREP, XTEA_ENC under KEY and FRAME in turn; a ROUNDS that is not positive ends it FATAL. -/
def Obligations.BuildEnds : Prop :=
  ∀ (s : State) (bs : List Byte) (c : Cipher), Ready s bs →
    (0 < s.rounds.toInt →
      EndsWith .build s (okView (outRes (buildFrame s.devidIn
        (ecb (encryptBlock (posRounds s)) (preparePlaintext bs) s.key.toList c).1)))) ∧
    (s.rounds.toInt ≤ 0 →
      EndsWith .build s (fatalOutcome ⟨.cipherFailed, .cause .roundsNotPositive⟩ none .none []))

/-- A built frame is undone (R219): it passes `check_frame`, its interior unstuffs to device id and body, and the device
id comes back. A prepared plaintext passes `check_crc`, and its payload is the padded payload (R217). -/
def Obligations.FramesAndPlaintextsAreUndone : Prop :=
  (∀ (d : BitVec 64) (e : List Byte),
    checkFrame (buildFrame d e) = none ∧ unstuff (interior (buildFrame d e)) = .ok (le64 d ++ e) ∧
    bodyDevid (le64 d ++ e) = d ∧ bodyCt (le64 d ++ e) = e) ∧
  ∀ x : List Byte,
    plainPayload (preparePlaintext x) = padPayload x ∧
    checkCrc (preparePlaintext x) (crc16 (plainPayload (preparePlaintext x)) 0xFFFF) = none

/-! ### DecodePipeline -/

/-- The device-id string (R24): 1 to 20 ASCII digits, no leading zero but for "0" itself, whose value is the id. -/
def Obligations.DeviceIdStringIsItsDecimalNumeral : Prop :=
  ∀ d : BitVec 64,
    1 ≤ (decString d).length ∧ (decString d).length ≤ 20 ∧
    (∀ c ∈ decString d, 48 ≤ c.toNat ∧ c.toNat ≤ 57) ∧
    ((decString d).head? = some 48 → decString d = [48]) ∧
    stringValue (decString d) = d.toNat

/-- DECODE completes (R136, R141, R145 to R149): with sound markers, a body that unstuffs to at least 16 bytes, a
ciphertext of whole blocks, a 16-byte key for the device id, a positive ROUNDS and a matching trailer, it ends OK with
FRAME_OK, CRC_OK, DEVID, the payload in OBUF and the walk of the payload; the key port was asked once. That OFF stays
after the command where the walk left it is the model's choice (log 12). -/
def Obligations.DecodeCompletes : Prop :=
  ∀ (s : State) (D body key pt : List Byte) (c : Cipher), Ready s D → 2 ≤ D.length →
    D.head? = some 0xC0 → D.getLast? = some 0xC2 → unstuff (slice D 1 (D.length - 1)) = .ok body →
    16 ≤ body.length → body.length % 8 = 0 → keyAnswer s (decString (bodyId body)) = some key →
    key.length = 16 → 0 < s.rounds.toInt → pt = (ecb (decryptBlock (posRounds s)) (body.drop 8) key c).1 →
    LE16 (pt.drop (pt.length - 2)) = crc16 (pt.take (pt.length - 2)) 0xFFFF →
    let p := parse Config.params (pt.take (pt.length - 2))
    EndsAt .decode s
      { status := { done := true, ok := true, frameOk := true, crcOk := true, devidValid := true }
        res :=
          { outRes (pt.take (pt.length - 2)) with
            devid := bodyId body, padLen := p.padLen, recq := p.recq, warnq := p.warnq, errq := p.errq }
        stage := .payloadParse
        requests := [decString (bodyId body)] }
      p.off

/-- The fatal errors of DECODE before the device id is known (R137, R138, R140, R150 rows 1 to 4): the first check that
fails, STAGE frozen where it stood, no device id, no key request. -/
def Obligations.DecodeFailsBeforeTheDeviceId : Prop :=
  ∀ (s : State) (D : List Byte), Ready s D →
    (D.length < 2 → EndsWith .decode s (fatalOutcome ⟨.tooShort, .length D.length⟩ none .frame [])) ∧
    (∀ f l, 2 ≤ D.length → D.head? = some f → D.getLast? = some l → f ≠ 0xC0 ∨ l ≠ 0xC2 →
      EndsWith .decode s (fatalOutcome ⟨.invalidBoundaries, .boundaries f l⟩ none .frame [])) ∧
    (2 ≤ D.length → D.head? = some 0xC0 → D.getLast? = some 0xC2 →
      (∀ e, unstuff (slice D 1 (D.length - 1)) = .error e →
        EndsWith .decode s (fatalOutcome e none .unstuff [])) ∧
      (∀ body, unstuff (slice D 1 (D.length - 1)) = .ok body → body.length < 16 →
        EndsWith .decode s (fatalOutcome ⟨.bodyTooShort, .length body.length⟩ none .imei [])))

/-- The fatal errors of DECODE once the device id is known (R142, R144, R145, R146, R150 rows 5 to 8 and 10): the first
check that fails, with the device id; the key port is asked exactly by the checks after the ciphertext length. -/
def Obligations.DecodeFailsAfterTheDeviceId : Prop :=
  ∀ (s : State) (D body : List Byte), Ready s D → 2 ≤ D.length → D.head? = some 0xC0 → D.getLast? = some 0xC2 →
    unstuff (slice D 1 (D.length - 1)) = .ok body → 16 ≤ body.length →
    let id := bodyId body
    let q := [decString id]
    (body.length % 8 ≠ 0 →
      EndsWith .decode s (fatalOutcome ⟨.invalidCiphertextLength, .length (body.length - 8)⟩ (some id) .xtea [])) ∧
    (body.length % 8 = 0 →
      (keyAnswer s (decString id) = none →
        EndsWith .decode s (fatalOutcome ⟨.missingKeyForImei, .empty⟩ (some id) .keyLookup q)) ∧
      (∀ key, keyAnswer s (decString id) = some key →
        (key.length ≠ 16 →
          EndsWith .decode s (fatalOutcome ⟨.invalidKeyLength, .length key.length⟩ (some id) .keyLookup q)) ∧
        (key.length = 16 → s.rounds.toInt ≤ 0 →
          EndsWith .decode s (fatalOutcome ⟨.decryptFailed, .cause .roundsNotPositive⟩ (some id) .xtea q)) ∧
        (∀ (pt : List Byte) (c : Cipher), key.length = 16 → 0 < s.rounds.toInt →
          pt = (ecb (decryptBlock (posRounds s)) (body.drop 8) key c).1 →
          LE16 (pt.drop (pt.length - 2)) ≠ crc16 (pt.take (pt.length - 2)) 0xFFFF →
          EndsWith .decode s (fatalOutcome
            ⟨.crcMismatch, .crc (LE16 (pt.drop (pt.length - 2))) (crc16 (pt.take (pt.length - 2)) 0xFFFF)⟩
            (some id) .crc q))))

/-- The key port is asked at most once in a DECODE, with the device id's string, and by no other command (R143). -/
def Obligations.TheKeyPortIsAskedAtMostOnce : Prop :=
  ∀ (i : Instr) (s t : State), i.isCommand = true → exec i s = .next t →
    t.keyRequests = [] ∨ (i = .decode ∧ t.status.devidValid = true ∧ t.keyRequests = [decString t.res.devid])

/-- The pipeline round trip (R221): the frame BUILD makes, decoded with the matching key and the same ROUNDS, gives back
the device id and the padded payload, with both integrity flags and the records PARSE gives for that payload. That OFF
stays where the walk left it is the model's choice (log 12). -/
def Obligations.DecodeUndoesBuild : Prop :=
  ∀ (s t u : State) (payload : List Byte), Ready s payload → 0 < s.rounds.toInt → exec .build s = .next t →
    Ready u t.res.obuf → u.rounds = s.rounds → keyAnswer u (decString s.devidIn) = some s.key.toList →
    let P := payload ++ zeros (padCount payload.length)
    let p := parse Config.params P
    EndsAt .decode u
      { status := { done := true, ok := true, frameOk := true, crcOk := true, devidValid := true }
        res :=
          { outRes P with
            devid := s.devidIn, padLen := p.padLen, recq := p.recq, warnq := p.warnq, errq := p.errq }
        stage := .payloadParse
        requests := [decString s.devidIn] }
      p.off

/-! ### Walks and commands agree -/

/-- STUFF and UNSTUFF, one symbol a step, reach the state the command reaches in one step (R46, R120, R122; log 1, 2). -/
def Obligations.ScanStepsReachTheCommand : Prop :=
  ∀ (s : State) (bs : List Byte), Ready s bs →
    Host.Core.run core (bs.length + 1) (beginStuff bs s) = exec .stuff s ∧
    Host.Core.run core (bs.length + 1) (beginUnstuff bs s) = exec .unstuff s

/-- PARSE, one record a step, reaches the state the command reaches in one step (R46, R160; log 1, 2). -/
def Obligations.RecordStepsReachTheCommand : Prop :=
  ∀ (s : State) (bs : List Byte), Ready s bs →
    Host.Core.run core (bs.length + 1) (beginParse bs s) = exec .parse s

/-- EVPARSE, one entry a step, reaches the state the command reaches in one step (R46, R202, R206; log 1, 2). -/
def Obligations.EntryStepsReachTheCommand : Prop :=
  ∀ (s : State) (bs : List Byte), Ready s bs → s.ilen.toNat ≤ 255 →
    Host.Core.run core (bs.length + 1) (beginEvparse bs s) = exec .evparse s

/-- A command that runs ends (R284, R285): from every state with BUSY = 1, in a walk (log 2) or with a command pending
(log 9) whose input the host has written (log 4), the machine reaches one with DONE = 1 and BUSY = 0 in at most one step
for each byte left to read (the byte in CMD for a pending command) and one more. -/
def Obligations.EveryWalkEnds : Prop :=
  ∀ s : State, Inv s → s.status.busy = true → (s.cmdPending = true → ∃ bs, readInput s = .ok bs) →
    ∃ n t, n ≤ (fetchBytes s).2.length + 1 ∧ Host.Core.run core n s = .next t ∧ t.status.busy = false ∧
      t.status.done = true
end

