-- ==== Sys2Proof/Laws/Bytes.lean ====
section
/-! SUPPORT. Little-endian numbers and slices (00_scope.md R6, R7). -/

namespace Sys2Proof.Machine

@[simp] theorem leBytes_length (n v : Nat) : (leBytes n v).length = n := by
  induction n generalizing v with
  | zero => rfl
  | succ n ih => simp [leBytes, ih]

/-- `LEn(len(v)) = v` for every number that fits in `n` bytes. -/
theorem leNat_leBytes (n v : Nat) (h : v < 256 ^ n) : leNat (leBytes n v) = v := by
  induction n generalizing v with
  | zero => simp [leBytes, leNat] at *; omega
  | succ n ih =>
    have hd : v / 256 < 256 ^ n := by
      rw [pow_succ] at h; exact Nat.div_lt_of_lt_mul (by omega)
    simp only [leBytes, leNat, ih _ hd, BitVec.toNat_ofNat]
    omega

theorem leNat_lt (bs : List Byte) : leNat bs < 256 ^ bs.length := by
  induction bs with
  | nil => simp [leNat]
  | cons b bs ih => simp only [leNat, List.length_cons, pow_succ]; have := b.isLt; omega

/-- The bytes of a number that bytes make are those bytes. -/
theorem leBytes_leNat (bs : List Byte) : leBytes bs.length (leNat bs) = bs := by
  induction bs with
  | nil => rfl
  | cons b bs ih =>
    have h1 : BitVec.ofNat 8 (b.toNat + 256 * leNat bs) = b := by
      apply BitVec.eq_of_toNat_eq; simp only [BitVec.toNat_ofNat]; have := b.isLt; omega
    have h2 : (b.toNat + 256 * leNat bs) / 256 = leNat bs := by have := b.isLt; omega
    simp only [List.length_cons, leNat, leBytes, h1, h2, ih]

@[simp] theorem LE16_le16 (v : BitVec 16) : LE16 (le16 v) = v := by
  simp [LE16, le16, leNat_leBytes 2 v.toNat (by have := v.isLt; omega)]

@[simp] theorem LE32_le32 (v : Word) : LE32 (le32 v) = v := by
  simp [LE32, le32, leNat_leBytes 4 v.toNat (by have := v.isLt; omega)]

@[simp] theorem LE64_le64 (v : BitVec 64) : LE64 (le64 v) = v := by
  simp [LE64, le64, leNat_leBytes 8 v.toNat (by have := v.isLt; omega)]

@[simp] theorem le16_length (v : BitVec 16) : (le16 v).length = 2 := leBytes_length _ _
@[simp] theorem le32_length (v : Word) : (le32 v).length = 4 := leBytes_length _ _
@[simp] theorem le64_length (v : BitVec 64) : (le64 v).length = 8 := leBytes_length _ _

theorem le32_LE32 (bs : List Byte) (h : bs.length = 4) : le32 (LE32 bs) = bs := by
  have hl := leNat_lt bs
  rw [h] at hl
  have : (LE32 bs).toNat = leNat bs := by
    simp only [LE32, BitVec.toNat_ofNat]; exact Nat.mod_eq_of_lt (by omega)
  rw [le32, this, ← h, leBytes_leNat]

@[simp] theorem slice_length (bs : List Byte) (a b : Nat) : (slice bs a b).length = min b bs.length - a := by
  simp [slice]

/-- The slice of the middle part of a sequence. -/
theorem slice_middle (xs ys zs : List Byte) : slice (xs ++ ys ++ zs) xs.length (xs.length + ys.length) = ys := by
  simp [slice, List.take_append]

end Sys2Proof.Machine
end

