-- ==== Sys2Proof/Laws/Decode.lean ====
section
/-! SUPPORT. The opcode table's rows: each space is covered, no two rows of a space overlap (30_encoding.md, opening),
and what the decoder answers is well formed and of the space it was read in. -/

namespace Sys2Proof

/-- A lookup found a well-formed instruction of the space. -/
def foundIn (sp : Space) : Option Instr → Bool
  | some i => i.wf && i.space == sp
  | none => false

/-- No two rows cover the same byte. -/
def disjoint8 (rows : List Row8) : Prop := ∀ b : Byte, (rows.filter (·.covers b)).length ≤ 1

/-- No two rows cover the same pair. -/
def disjoint16 (rows : List Row16) : Prop := ∀ n : Byte, (rows.filter (·.covers (Config.ESC ++ n))).length ≤ 1

theorem cmdRows_found : ∀ b : Byte, foundIn .cmd (lookup8 cmdRows b) = true := by decide
theorem recordRows_found : ∀ b : Byte, foundIn .record (lookup8 recordRows b) = true := by decide
theorem stuffRows_found : ∀ b : Byte, foundIn .stuffIn (lookup8 stuffRows b) = true := by decide
theorem unstuffRows8_found : ∀ b : Byte, b ≠ Config.ESC → foundIn .unstuffIn (lookup8 unstuffRows8 b) = true := by
  decide
theorem unstuffRows16_found : ∀ n : Byte, foundIn .unstuffIn (lookup16 unstuffRows16 n) = true := by decide
theorem entryRows_found : ∀ b : Byte, foundIn .entry (lookup8 entryRows b) = true := by decide

theorem cmdRows_disjoint : disjoint8 cmdRows := by unfold disjoint8; decide
theorem recordRows_disjoint : disjoint8 recordRows := by unfold disjoint8; decide
theorem stuffRows_disjoint : disjoint8 stuffRows := by unfold disjoint8; decide
theorem unstuffRows8_disjoint : disjoint8 unstuffRows8 := by unfold disjoint8; decide
theorem unstuffRows16_disjoint : disjoint16 unstuffRows16 := by unfold disjoint16; decide
theorem entryRows_disjoint : disjoint8 entryRows := by unfold disjoint8; decide

/-- A lookup that found something is the decoder's answer. -/
theorem orNoRow_found {sp : Space} {o : Option Instr} (h : foundIn sp o = true) :
    ∃ i, orNoRow o = .ok i ∧ i.wf = true ∧ i.space = sp := by
  cases o with
  | none => cases h
  | some i => simp only [foundIn, Bool.and_eq_true, beq_iff_eq] at h; exact ⟨i, rfl, h.1, h.2⟩

/-- A nonempty sequence opens a well-formed instruction of the space it is read in. -/
theorem decode_found (sp : Space) (b : Byte) (rest : List Byte) :
    ∃ i, decode sp (b :: rest) = .ok i ∧ i.wf = true ∧ i.space = sp := by
  cases sp with
  | cmd => exact orNoRow_found (cmdRows_found b)
  | record =>
    by_cases h : (b == 0 && allZero rest) = true
    · exact ⟨.pad, by simp only [decode, h, if_true], rfl, rfl⟩
    · obtain ⟨i, hi⟩ := orNoRow_found (recordRows_found b)
      exact ⟨i, by simp only [decode, h, Bool.false_eq_true, if_false, hi.1], hi.2⟩
  | stuffIn => exact orNoRow_found (stuffRows_found b)
  | unstuffIn =>
    by_cases h : b = Config.ESC
    · cases rest with
      | nil => exact ⟨.unstuffDangling, by simp [decode, h], rfl, rfl⟩
      | cons n more =>
        obtain ⟨i, hi⟩ := orNoRow_found (unstuffRows16_found n)
        exact ⟨i, by simp [decode, h, hi.1], hi.2⟩
    · obtain ⟨i, hi⟩ := orNoRow_found (unstuffRows8_found b h)
      exact ⟨i, by simp [decode, h, hi.1], hi.2⟩
  | entry => exact orNoRow_found (entryRows_found b)

theorem decode_nil (sp : Space) : decode sp [] = .error .endOfInput := rfl

/-- The rows cover every value: the one rejection is the end of the input. -/
theorem decode_ne_noRow (sp : Space) (bs : List Byte) : decode sp bs ≠ .error .noRow := by
  cases bs with
  | nil => simp [decode]
  | cons b rest => obtain ⟨i, hi, _⟩ := decode_found sp b rest; simp [hi]

/-- What the decoder answers is well formed and of the space it was read in. -/
theorem decode_ok {sp : Space} {bs : List Byte} {i : Instr} (h : decode sp bs = .ok i) :
    i.wf = true ∧ i.space = sp ∧ bs ≠ [] := by
  cases bs with
  | nil => cases h
  | cons b rest =>
    obtain ⟨j, hj, hw⟩ := decode_found sp b rest
    rw [hj] at h; cases h
    exact ⟨hw.1, hw.2, by simp⟩

end Sys2Proof
end

