-- ==== Sys2Proof/Laws/Framer.lean ====
section
/-! SUPPORT. What a symbol of `stuff` and of `unstuff` does, byte by byte (42_framer.md R120, R122). -/

namespace Sys2Proof.Machine

/-- The encoding table of R64, whatever row a byte falls in. -/
theorem stuffByte_eq : ∀ b : Byte, stuffByte b =
    if b = Config.START then [Config.ESC, Config.codeC0]
    else if b = Config.END then [Config.ESC, Config.codeC2]
    else if b = Config.ESC then [Config.ESC, Config.codeC4]
    else [b] := by decide

@[simp] theorem stuff_nil : stuff [] = [] := rfl
@[simp] theorem stuff_cons (b : Byte) (bs : List Byte) : stuff (b :: bs) = stuffByte b ++ stuff bs := rfl
@[simp] theorem stuff_append (xs ys : List Byte) : stuff (xs ++ ys) = stuff xs ++ stuff ys := by simp [stuff]

/-- The instruction of a byte in the input of `unstuff` that is no escape marker copies it. -/
theorem unstuff_copies : ∀ b : Byte, b ≠ Config.ESC →
    ∃ ins, orNoRow (lookup8 unstuffRows8 b) = .ok ins ∧ ∀ i, unstuffRule ins i = some (.emit [b] 1) := by
  have h : ∀ b : Byte, b ≠ Config.ESC →
      (match orNoRow (lookup8 unstuffRows8 b) with
       | .ok ins => unstuffRule ins 0 == some (.emit [b] 1) && ins.space == .unstuffIn &&
          (encode ins).length == 1 && ins != .unstuffDangling
       | .error _ => false) = true := by decide
  intro b hb
  have hb' := h b hb
  split at hb'
  · next ins hi =>
    refine ⟨ins, hi, fun i => ?_⟩
    simp only [Bool.and_eq_true, beq_iff_eq, bne_iff_ne] at hb'
    obtain ⟨⟨⟨h1, _⟩, h3⟩, h4⟩ := hb'
    cases ins <;> first | exact h1 | exact absurd rfl h4 | simp [encode] at h3
  · cases hb'

/-- An escape marker in the input of `unstuff` is decided by the byte after it: the decoding table of R64. -/
theorem unstuff_escapes (n : Byte) (i : Nat) :
    ∃ ins, orNoRow (lookup16 unstuffRows16 n) = .ok ins ∧ unstuffRule ins i = some
      (if n = Config.codeC0 then unescape Config.START
       else if n = Config.codeC2 then unescape Config.END
       else if n = Config.codeC4 then unescape Config.ESC
       else invalidEscape n i) := by
  have h : ∀ n : Byte,
      (match orNoRow (lookup16 unstuffRows16 n) with
       | .ok ins => unstuffRule ins 0 == some
          (if n = Config.codeC0 then unescape Config.START
           else if n = Config.codeC2 then unescape Config.END
           else if n = Config.codeC4 then unescape Config.ESC
           else invalidEscape n 0) && (encode ins).length == 2
       | .error _ => false) = true := by decide
  have hn := h n
  split at hn
  · next ins hi =>
    refine ⟨ins, hi, ?_⟩
    simp only [Bool.and_eq_true, beq_iff_eq] at hn
    obtain ⟨h1, h2⟩ := hn
    cases ins <;> first
      | (simp [encode] at h2; done)
      | (simp only [unstuffRule, Option.some.injEq] at h1 ⊢
         revert h1
         simp only [ruleUnstuffEscC1, ruleUnstuffEscC3, ruleUnstuffEscC4, ruleUnstuffBadEsc00_7F, ruleUnstuffBadEsc80_BF,
           ruleUnstuffBadEscC0_C0, ruleUnstuffBadEscC2_C2, ruleUnstuffBadEscC5_C5, ruleUnstuffBadEscC6_C7,
           ruleUnstuffBadEscC8_CF, ruleUnstuffBadEscD0_DF, ruleUnstuffBadEscE0_FF]
         split_ifs <;> simp [unescape, invalidEscape])
  · cases hn

/-- `unstuff` at a byte that is no escape marker. -/
theorem unstuffFrom_copy (fuel : Nat) (b : Byte) (rest : List Byte) (i : Nat) (hb : b ≠ Config.ESC) :
    unstuffFrom (fuel + 1) (b :: rest) i =
      (unstuffFrom fuel rest (i + 1)).map (b :: ·) := by
  obtain ⟨ins, hi, hr⟩ := unstuff_copies b hb
  simp only [unstuffFrom, decode, beq_iff_eq, hb, if_false, hi, hr, List.drop_one, List.tail_cons]
  cases unstuffFrom fuel rest (i + 1) <;> rfl

/-- `unstuff` at an escape marker that is the last byte. -/
theorem unstuffFrom_dangling (fuel : Nat) (i : Nat) :
    unstuffFrom (fuel + 1) [Config.ESC] i = .error ⟨.danglingEscapeByte, .offset i⟩ := by
  simp [unstuffFrom, decode, unstuffRule, ruleUnstuffDangling]

/-- `unstuff` at a legal pair. -/
theorem unstuffFrom_pair (fuel : Nat) (n b : Byte) (rest : List Byte) (i : Nat)
    (h : (n = Config.codeC0 ∧ b = Config.START) ∨ (n = Config.codeC2 ∧ b = Config.END) ∨
      (n = Config.codeC4 ∧ b = Config.ESC)) :
    unstuffFrom (fuel + 1) (Config.ESC :: n :: rest) i =
      (unstuffFrom fuel rest (i + 2)).map (b :: ·) := by
  obtain ⟨ins, hi, hr⟩ := unstuff_escapes n i
  have hu : unstuffRule ins i = some (.emit [b] 2) := by
    rw [hr]
    rcases h with ⟨rfl, rfl⟩ | ⟨rfl, rfl⟩ | ⟨rfl, rfl⟩ <;> rfl
  simp only [unstuffFrom, decode, beq_self_eq_true, if_true, hi, hu, List.drop_succ_cons, List.drop_zero]
  cases unstuffFrom fuel rest (i + 2) <;> rfl

/-- `unstuff` at an illegal pair. -/
theorem unstuffFrom_bad (fuel : Nat) (n : Byte) (rest : List Byte) (i : Nat)
    (h0 : n ≠ Config.codeC0) (h2 : n ≠ Config.codeC2) (h4 : n ≠ Config.codeC4) :
    unstuffFrom (fuel + 1) (Config.ESC :: n :: rest) i = .error ⟨.invalidEscapeSequence, .escape i n⟩ := by
  obtain ⟨ins, hi, hr⟩ := unstuff_escapes n i
  simp only [h0, h2, h4, if_false] at hr
  simp [unstuffFrom, decode, hi, hr, invalidEscape]

end Sys2Proof.Machine
end

