-- ==== Sys2Proof/Laws/State.lean ====
section
/-! SUPPORT. One lemma per field and state operation, true by rfl: no later proof unfolds a record update. -/

namespace Sys2Proof.Machine

/-! ### startCommand -/

@[simp] theorem startCommand_rounds (s : State) : (startCommand s).rounds = s.rounds := rfl
@[simp] theorem startCommand_crcInit (s : State) : (startCommand s).crcInit = s.crcInit := rfl
@[simp] theorem startCommand_key (s : State) : (startCommand s).key = s.key := rfl
@[simp] theorem startCommand_devidIn (s : State) : (startCommand s).devidIn = s.devidIn := rfl
@[simp] theorem startCommand_ibuf (s : State) : (startCommand s).ibuf = s.ibuf := rfl
@[simp] theorem startCommand_ilen (s : State) : (startCommand s).ilen = s.ilen := rfl
@[simp] theorem startCommand_cmd (s : State) : (startCommand s).cmd = s.cmd := rfl
@[simp] theorem startCommand_cmdPending (s : State) : (startCommand s).cmdPending = false := rfl
@[simp] theorem startCommand_status (s : State) : (startCommand s).status = Status.started := rfl
@[simp] theorem startCommand_stage (s : State) : (startCommand s).stage = .none := rfl
@[simp] theorem startCommand_off (s : State) : (startCommand s).off = 0 := rfl
@[simp] theorem startCommand_work (s : State) : (startCommand s).work = { s.work with body := [], ct := [], pt := [] } := rfl
@[simp] theorem startCommand_walk (s : State) : (startCommand s).walk = .idle := rfl
@[simp] theorem startCommand_res (s : State) : (startCommand s).res = {} := rfl
@[simp] theorem startCommand_keyTable (s : State) : (startCommand s).keyTable = s.keyTable := rfl
@[simp] theorem startCommand_keyDefault (s : State) : (startCommand s).keyDefault = s.keyDefault := rfl
@[simp] theorem startCommand_keyRequests (s : State) : (startCommand s).keyRequests = [] := rfl
@[simp] theorem startCommand_free (s : State) : (startCommand s).free = s.free := rfl

/-! ### writeCmd -/

@[simp] theorem writeCmd_rounds (code : Byte) (s : State) : (writeCmd code s).rounds = s.rounds := rfl
@[simp] theorem writeCmd_crcInit (code : Byte) (s : State) : (writeCmd code s).crcInit = s.crcInit := rfl
@[simp] theorem writeCmd_key (code : Byte) (s : State) : (writeCmd code s).key = s.key := rfl
@[simp] theorem writeCmd_devidIn (code : Byte) (s : State) : (writeCmd code s).devidIn = s.devidIn := rfl
@[simp] theorem writeCmd_ibuf (code : Byte) (s : State) : (writeCmd code s).ibuf = s.ibuf := rfl
@[simp] theorem writeCmd_ilen (code : Byte) (s : State) : (writeCmd code s).ilen = s.ilen := rfl
@[simp] theorem writeCmd_cmd (code : Byte) (s : State) : (writeCmd code s).cmd = code := rfl
@[simp] theorem writeCmd_cmdPending (code : Byte) (s : State) : (writeCmd code s).cmdPending = true := rfl
@[simp] theorem writeCmd_status (code : Byte) (s : State) : (writeCmd code s).status = Status.started := rfl
@[simp] theorem writeCmd_stage (code : Byte) (s : State) : (writeCmd code s).stage = .none := rfl
@[simp] theorem writeCmd_off (code : Byte) (s : State) : (writeCmd code s).off = 0 := rfl
@[simp] theorem writeCmd_work (code : Byte) (s : State) : (writeCmd code s).work = { s.work with body := [], ct := [], pt := [] } := rfl
@[simp] theorem writeCmd_walk (code : Byte) (s : State) : (writeCmd code s).walk = .idle := rfl
@[simp] theorem writeCmd_res (code : Byte) (s : State) : (writeCmd code s).res = {} := rfl
@[simp] theorem writeCmd_keyTable (code : Byte) (s : State) : (writeCmd code s).keyTable = s.keyTable := rfl
@[simp] theorem writeCmd_keyDefault (code : Byte) (s : State) : (writeCmd code s).keyDefault = s.keyDefault := rfl
@[simp] theorem writeCmd_keyRequests (code : Byte) (s : State) : (writeCmd code s).keyRequests = [] := rfl
@[simp] theorem writeCmd_free (code : Byte) (s : State) : (writeCmd code s).free = s.free := rfl

/-! ### storeInput -/

@[simp] theorem storeInput_rounds (bs : List Byte) (s : State) : (storeInput bs s).rounds = s.rounds := rfl
@[simp] theorem storeInput_crcInit (bs : List Byte) (s : State) : (storeInput bs s).crcInit = s.crcInit := rfl
@[simp] theorem storeInput_key (bs : List Byte) (s : State) : (storeInput bs s).key = s.key := rfl
@[simp] theorem storeInput_devidIn (bs : List Byte) (s : State) : (storeInput bs s).devidIn = s.devidIn := rfl
@[simp] theorem storeInput_ibuf (bs : List Byte) (s : State) : (storeInput bs s).ibuf = memWriteN s.ibuf 0 bs := rfl
@[simp] theorem storeInput_ilen (bs : List Byte) (s : State) : (storeInput bs s).ilen = BitVec.ofNat 16 bs.length := rfl
@[simp] theorem storeInput_cmd (bs : List Byte) (s : State) : (storeInput bs s).cmd = s.cmd := rfl
@[simp] theorem storeInput_cmdPending (bs : List Byte) (s : State) : (storeInput bs s).cmdPending = s.cmdPending := rfl
@[simp] theorem storeInput_status (bs : List Byte) (s : State) : (storeInput bs s).status = s.status := rfl
@[simp] theorem storeInput_stage (bs : List Byte) (s : State) : (storeInput bs s).stage = s.stage := rfl
@[simp] theorem storeInput_off (bs : List Byte) (s : State) : (storeInput bs s).off = s.off := rfl
@[simp] theorem storeInput_work (bs : List Byte) (s : State) : (storeInput bs s).work = s.work := rfl
@[simp] theorem storeInput_walk (bs : List Byte) (s : State) : (storeInput bs s).walk = s.walk := rfl
@[simp] theorem storeInput_res (bs : List Byte) (s : State) : (storeInput bs s).res = s.res := rfl
@[simp] theorem storeInput_keyTable (bs : List Byte) (s : State) : (storeInput bs s).keyTable = s.keyTable := rfl
@[simp] theorem storeInput_keyDefault (bs : List Byte) (s : State) : (storeInput bs s).keyDefault = s.keyDefault := rfl
@[simp] theorem storeInput_keyRequests (bs : List Byte) (s : State) : (storeInput bs s).keyRequests = s.keyRequests := rfl
@[simp] theorem storeInput_free (bs : List Byte) (s : State) : (storeInput bs s).free = s.free := rfl

/-! ### releaseWork -/

@[simp] theorem releaseWork_rounds (s : State) : (releaseWork s).rounds = s.rounds := rfl
@[simp] theorem releaseWork_crcInit (s : State) : (releaseWork s).crcInit = s.crcInit := rfl
@[simp] theorem releaseWork_key (s : State) : (releaseWork s).key = s.key := rfl
@[simp] theorem releaseWork_devidIn (s : State) : (releaseWork s).devidIn = s.devidIn := rfl
@[simp] theorem releaseWork_ibuf (s : State) : (releaseWork s).ibuf = s.ibuf := rfl
@[simp] theorem releaseWork_ilen (s : State) : (releaseWork s).ilen = s.ilen := rfl
@[simp] theorem releaseWork_cmd (s : State) : (releaseWork s).cmd = s.cmd := rfl
@[simp] theorem releaseWork_cmdPending (s : State) : (releaseWork s).cmdPending = s.cmdPending := rfl
@[simp] theorem releaseWork_status (s : State) : (releaseWork s).status = s.status := rfl
@[simp] theorem releaseWork_stage (s : State) : (releaseWork s).stage = s.stage := rfl
@[simp] theorem releaseWork_off (s : State) : (releaseWork s).off = s.off := rfl
@[simp] theorem releaseWork_work (s : State) : (releaseWork s).work = Work.free s.free := rfl
@[simp] theorem releaseWork_walk (s : State) : (releaseWork s).walk = s.walk := rfl
@[simp] theorem releaseWork_res (s : State) : (releaseWork s).res = s.res := rfl
@[simp] theorem releaseWork_keyTable (s : State) : (releaseWork s).keyTable = s.keyTable := rfl
@[simp] theorem releaseWork_keyDefault (s : State) : (releaseWork s).keyDefault = s.keyDefault := rfl
@[simp] theorem releaseWork_keyRequests (s : State) : (releaseWork s).keyRequests = s.keyRequests := rfl
@[simp] theorem releaseWork_free (s : State) : (releaseWork s).free = s.free + 1 := rfl

/-! ### finishOk -/

@[simp] theorem finishOk_rounds (s : State) : (finishOk s).rounds = s.rounds := rfl
@[simp] theorem finishOk_crcInit (s : State) : (finishOk s).crcInit = s.crcInit := rfl
@[simp] theorem finishOk_key (s : State) : (finishOk s).key = s.key := rfl
@[simp] theorem finishOk_devidIn (s : State) : (finishOk s).devidIn = s.devidIn := rfl
@[simp] theorem finishOk_ibuf (s : State) : (finishOk s).ibuf = s.ibuf := rfl
@[simp] theorem finishOk_ilen (s : State) : (finishOk s).ilen = s.ilen := rfl
@[simp] theorem finishOk_cmd (s : State) : (finishOk s).cmd = s.cmd := rfl
@[simp] theorem finishOk_cmdPending (s : State) : (finishOk s).cmdPending = s.cmdPending := rfl
@[simp] theorem finishOk_status (s : State) : (finishOk s).status = s.status.endOk := rfl
@[simp] theorem finishOk_stage (s : State) : (finishOk s).stage = s.stage := rfl
@[simp] theorem finishOk_off (s : State) : (finishOk s).off = s.off := rfl
@[simp] theorem finishOk_work (s : State) : (finishOk s).work = Work.free s.free := rfl
@[simp] theorem finishOk_walk (s : State) : (finishOk s).walk = .idle := rfl
@[simp] theorem finishOk_res (s : State) : (finishOk s).res = s.res := rfl
@[simp] theorem finishOk_keyTable (s : State) : (finishOk s).keyTable = s.keyTable := rfl
@[simp] theorem finishOk_keyDefault (s : State) : (finishOk s).keyDefault = s.keyDefault := rfl
@[simp] theorem finishOk_keyRequests (s : State) : (finishOk s).keyRequests = s.keyRequests := rfl
@[simp] theorem finishOk_free (s : State) : (finishOk s).free = s.free + 1 := rfl

/-! ### raiseFatal -/

@[simp] theorem raiseFatal_rounds (e : FatalError) (s : State) : (raiseFatal e s).rounds = s.rounds := rfl
@[simp] theorem raiseFatal_crcInit (e : FatalError) (s : State) : (raiseFatal e s).crcInit = s.crcInit := rfl
@[simp] theorem raiseFatal_key (e : FatalError) (s : State) : (raiseFatal e s).key = s.key := rfl
@[simp] theorem raiseFatal_devidIn (e : FatalError) (s : State) : (raiseFatal e s).devidIn = s.devidIn := rfl
@[simp] theorem raiseFatal_ibuf (e : FatalError) (s : State) : (raiseFatal e s).ibuf = s.ibuf := rfl
@[simp] theorem raiseFatal_ilen (e : FatalError) (s : State) : (raiseFatal e s).ilen = s.ilen := rfl
@[simp] theorem raiseFatal_cmd (e : FatalError) (s : State) : (raiseFatal e s).cmd = s.cmd := rfl
@[simp] theorem raiseFatal_cmdPending (e : FatalError) (s : State) : (raiseFatal e s).cmdPending = s.cmdPending := rfl
@[simp] theorem raiseFatal_status (e : FatalError) (s : State) : (raiseFatal e s).status = s.status.endFatal := rfl
@[simp] theorem raiseFatal_stage (e : FatalError) (s : State) : (raiseFatal e s).stage = s.stage := rfl
@[simp] theorem raiseFatal_off (e : FatalError) (s : State) : (raiseFatal e s).off = s.off := rfl
@[simp] theorem raiseFatal_work (e : FatalError) (s : State) : (raiseFatal e s).work = Work.free s.free := rfl
@[simp] theorem raiseFatal_walk (e : FatalError) (s : State) : (raiseFatal e s).walk = .idle := rfl
@[simp] theorem raiseFatal_res (e : FatalError) (s : State) : (raiseFatal e s).res = { devid := s.res.devid, err := { stage := e.reason.stage, reason := e.reason, detail := e.detail, devidValid := s.status.devidValid, devid := s.res.devid } } := rfl
@[simp] theorem raiseFatal_keyTable (e : FatalError) (s : State) : (raiseFatal e s).keyTable = s.keyTable := rfl
@[simp] theorem raiseFatal_keyDefault (e : FatalError) (s : State) : (raiseFatal e s).keyDefault = s.keyDefault := rfl
@[simp] theorem raiseFatal_keyRequests (e : FatalError) (s : State) : (raiseFatal e s).keyRequests = s.keyRequests := rfl
@[simp] theorem raiseFatal_free (e : FatalError) (s : State) : (raiseFatal e s).free = s.free + 1 := rfl

/-! ### endCmdErr -/

@[simp] theorem endCmdErr_rounds (s : State) : (endCmdErr s).rounds = s.rounds := rfl
@[simp] theorem endCmdErr_crcInit (s : State) : (endCmdErr s).crcInit = s.crcInit := rfl
@[simp] theorem endCmdErr_key (s : State) : (endCmdErr s).key = s.key := rfl
@[simp] theorem endCmdErr_devidIn (s : State) : (endCmdErr s).devidIn = s.devidIn := rfl
@[simp] theorem endCmdErr_ibuf (s : State) : (endCmdErr s).ibuf = s.ibuf := rfl
@[simp] theorem endCmdErr_ilen (s : State) : (endCmdErr s).ilen = s.ilen := rfl
@[simp] theorem endCmdErr_cmd (s : State) : (endCmdErr s).cmd = s.cmd := rfl
@[simp] theorem endCmdErr_cmdPending (s : State) : (endCmdErr s).cmdPending = s.cmdPending := rfl
@[simp] theorem endCmdErr_status (s : State) : (endCmdErr s).status = s.status.endCmdErr := rfl
@[simp] theorem endCmdErr_stage (s : State) : (endCmdErr s).stage = s.stage := rfl
@[simp] theorem endCmdErr_off (s : State) : (endCmdErr s).off = s.off := rfl
@[simp] theorem endCmdErr_work (s : State) : (endCmdErr s).work = s.work := rfl
@[simp] theorem endCmdErr_walk (s : State) : (endCmdErr s).walk = s.walk := rfl
@[simp] theorem endCmdErr_res (s : State) : (endCmdErr s).res = s.res := rfl
@[simp] theorem endCmdErr_keyTable (s : State) : (endCmdErr s).keyTable = s.keyTable := rfl
@[simp] theorem endCmdErr_keyDefault (s : State) : (endCmdErr s).keyDefault = s.keyDefault := rfl
@[simp] theorem endCmdErr_keyRequests (s : State) : (endCmdErr s).keyRequests = s.keyRequests := rfl
@[simp] theorem endCmdErr_free (s : State) : (endCmdErr s).free = s.free := rfl

/-! ### setStage -/

@[simp] theorem setStage_rounds (st : Stage) (s : State) : (setStage st s).rounds = s.rounds := rfl
@[simp] theorem setStage_crcInit (st : Stage) (s : State) : (setStage st s).crcInit = s.crcInit := rfl
@[simp] theorem setStage_key (st : Stage) (s : State) : (setStage st s).key = s.key := rfl
@[simp] theorem setStage_devidIn (st : Stage) (s : State) : (setStage st s).devidIn = s.devidIn := rfl
@[simp] theorem setStage_ibuf (st : Stage) (s : State) : (setStage st s).ibuf = s.ibuf := rfl
@[simp] theorem setStage_ilen (st : Stage) (s : State) : (setStage st s).ilen = s.ilen := rfl
@[simp] theorem setStage_cmd (st : Stage) (s : State) : (setStage st s).cmd = s.cmd := rfl
@[simp] theorem setStage_cmdPending (st : Stage) (s : State) : (setStage st s).cmdPending = s.cmdPending := rfl
@[simp] theorem setStage_status (st : Stage) (s : State) : (setStage st s).status = s.status := rfl
@[simp] theorem setStage_stage (st : Stage) (s : State) : (setStage st s).stage = st := rfl
@[simp] theorem setStage_off (st : Stage) (s : State) : (setStage st s).off = s.off := rfl
@[simp] theorem setStage_work (st : Stage) (s : State) : (setStage st s).work = s.work := rfl
@[simp] theorem setStage_walk (st : Stage) (s : State) : (setStage st s).walk = s.walk := rfl
@[simp] theorem setStage_res (st : Stage) (s : State) : (setStage st s).res = s.res := rfl
@[simp] theorem setStage_keyTable (st : Stage) (s : State) : (setStage st s).keyTable = s.keyTable := rfl
@[simp] theorem setStage_keyDefault (st : Stage) (s : State) : (setStage st s).keyDefault = s.keyDefault := rfl
@[simp] theorem setStage_keyRequests (st : Stage) (s : State) : (setStage st s).keyRequests = s.keyRequests := rfl
@[simp] theorem setStage_free (st : Stage) (s : State) : (setStage st s).free = s.free := rfl

/-! ### setObuf -/

@[simp] theorem setObuf_rounds (bs : List Byte) (s : State) : (setObuf bs s).rounds = s.rounds := rfl
@[simp] theorem setObuf_crcInit (bs : List Byte) (s : State) : (setObuf bs s).crcInit = s.crcInit := rfl
@[simp] theorem setObuf_key (bs : List Byte) (s : State) : (setObuf bs s).key = s.key := rfl
@[simp] theorem setObuf_devidIn (bs : List Byte) (s : State) : (setObuf bs s).devidIn = s.devidIn := rfl
@[simp] theorem setObuf_ibuf (bs : List Byte) (s : State) : (setObuf bs s).ibuf = s.ibuf := rfl
@[simp] theorem setObuf_ilen (bs : List Byte) (s : State) : (setObuf bs s).ilen = s.ilen := rfl
@[simp] theorem setObuf_cmd (bs : List Byte) (s : State) : (setObuf bs s).cmd = s.cmd := rfl
@[simp] theorem setObuf_cmdPending (bs : List Byte) (s : State) : (setObuf bs s).cmdPending = s.cmdPending := rfl
@[simp] theorem setObuf_status (bs : List Byte) (s : State) : (setObuf bs s).status = s.status := rfl
@[simp] theorem setObuf_stage (bs : List Byte) (s : State) : (setObuf bs s).stage = s.stage := rfl
@[simp] theorem setObuf_off (bs : List Byte) (s : State) : (setObuf bs s).off = s.off := rfl
@[simp] theorem setObuf_work (bs : List Byte) (s : State) : (setObuf bs s).work = s.work := rfl
@[simp] theorem setObuf_walk (bs : List Byte) (s : State) : (setObuf bs s).walk = s.walk := rfl
@[simp] theorem setObuf_res (bs : List Byte) (s : State) : (setObuf bs s).res = { s.res with obuf := bs, olen := BitVec.ofNat 18 bs.length } := rfl
@[simp] theorem setObuf_keyTable (bs : List Byte) (s : State) : (setObuf bs s).keyTable = s.keyTable := rfl
@[simp] theorem setObuf_keyDefault (bs : List Byte) (s : State) : (setObuf bs s).keyDefault = s.keyDefault := rfl
@[simp] theorem setObuf_keyRequests (bs : List Byte) (s : State) : (setObuf bs s).keyRequests = s.keyRequests := rfl
@[simp] theorem setObuf_free (bs : List Byte) (s : State) : (setObuf bs s).free = s.free := rfl

/-! ### setDevid -/

@[simp] theorem setDevid_rounds (d : BitVec 64) (s : State) : (setDevid d s).rounds = s.rounds := rfl
@[simp] theorem setDevid_crcInit (d : BitVec 64) (s : State) : (setDevid d s).crcInit = s.crcInit := rfl
@[simp] theorem setDevid_key (d : BitVec 64) (s : State) : (setDevid d s).key = s.key := rfl
@[simp] theorem setDevid_devidIn (d : BitVec 64) (s : State) : (setDevid d s).devidIn = s.devidIn := rfl
@[simp] theorem setDevid_ibuf (d : BitVec 64) (s : State) : (setDevid d s).ibuf = s.ibuf := rfl
@[simp] theorem setDevid_ilen (d : BitVec 64) (s : State) : (setDevid d s).ilen = s.ilen := rfl
@[simp] theorem setDevid_cmd (d : BitVec 64) (s : State) : (setDevid d s).cmd = s.cmd := rfl
@[simp] theorem setDevid_cmdPending (d : BitVec 64) (s : State) : (setDevid d s).cmdPending = s.cmdPending := rfl
@[simp] theorem setDevid_status (d : BitVec 64) (s : State) : (setDevid d s).status = s.status.withDevid := rfl
@[simp] theorem setDevid_stage (d : BitVec 64) (s : State) : (setDevid d s).stage = s.stage := rfl
@[simp] theorem setDevid_off (d : BitVec 64) (s : State) : (setDevid d s).off = s.off := rfl
@[simp] theorem setDevid_work (d : BitVec 64) (s : State) : (setDevid d s).work = s.work := rfl
@[simp] theorem setDevid_walk (d : BitVec 64) (s : State) : (setDevid d s).walk = s.walk := rfl
@[simp] theorem setDevid_res (d : BitVec 64) (s : State) : (setDevid d s).res = { s.res with devid := d } := rfl
@[simp] theorem setDevid_keyTable (d : BitVec 64) (s : State) : (setDevid d s).keyTable = s.keyTable := rfl
@[simp] theorem setDevid_keyDefault (d : BitVec 64) (s : State) : (setDevid d s).keyDefault = s.keyDefault := rfl
@[simp] theorem setDevid_keyRequests (d : BitVec 64) (s : State) : (setDevid d s).keyRequests = s.keyRequests := rfl
@[simp] theorem setDevid_free (d : BitVec 64) (s : State) : (setDevid d s).free = s.free := rfl

/-! ### setCrcOut -/

@[simp] theorem setCrcOut_rounds (v : BitVec 16) (s : State) : (setCrcOut v s).rounds = s.rounds := rfl
@[simp] theorem setCrcOut_crcInit (v : BitVec 16) (s : State) : (setCrcOut v s).crcInit = s.crcInit := rfl
@[simp] theorem setCrcOut_key (v : BitVec 16) (s : State) : (setCrcOut v s).key = s.key := rfl
@[simp] theorem setCrcOut_devidIn (v : BitVec 16) (s : State) : (setCrcOut v s).devidIn = s.devidIn := rfl
@[simp] theorem setCrcOut_ibuf (v : BitVec 16) (s : State) : (setCrcOut v s).ibuf = s.ibuf := rfl
@[simp] theorem setCrcOut_ilen (v : BitVec 16) (s : State) : (setCrcOut v s).ilen = s.ilen := rfl
@[simp] theorem setCrcOut_cmd (v : BitVec 16) (s : State) : (setCrcOut v s).cmd = s.cmd := rfl
@[simp] theorem setCrcOut_cmdPending (v : BitVec 16) (s : State) : (setCrcOut v s).cmdPending = s.cmdPending := rfl
@[simp] theorem setCrcOut_status (v : BitVec 16) (s : State) : (setCrcOut v s).status = s.status := rfl
@[simp] theorem setCrcOut_stage (v : BitVec 16) (s : State) : (setCrcOut v s).stage = s.stage := rfl
@[simp] theorem setCrcOut_off (v : BitVec 16) (s : State) : (setCrcOut v s).off = s.off := rfl
@[simp] theorem setCrcOut_work (v : BitVec 16) (s : State) : (setCrcOut v s).work = s.work := rfl
@[simp] theorem setCrcOut_walk (v : BitVec 16) (s : State) : (setCrcOut v s).walk = s.walk := rfl
@[simp] theorem setCrcOut_res (v : BitVec 16) (s : State) : (setCrcOut v s).res = { s.res with crcOut := v } := rfl
@[simp] theorem setCrcOut_keyTable (v : BitVec 16) (s : State) : (setCrcOut v s).keyTable = s.keyTable := rfl
@[simp] theorem setCrcOut_keyDefault (v : BitVec 16) (s : State) : (setCrcOut v s).keyDefault = s.keyDefault := rfl
@[simp] theorem setCrcOut_keyRequests (v : BitVec 16) (s : State) : (setCrcOut v s).keyRequests = s.keyRequests := rfl
@[simp] theorem setCrcOut_free (v : BitVec 16) (s : State) : (setCrcOut v s).free = s.free := rfl

/-! ### setCrc -/

@[simp] theorem setCrc_rounds (v : BitVec 16) (s : State) : (setCrc v s).rounds = s.rounds := rfl
@[simp] theorem setCrc_crcInit (v : BitVec 16) (s : State) : (setCrc v s).crcInit = s.crcInit := rfl
@[simp] theorem setCrc_key (v : BitVec 16) (s : State) : (setCrc v s).key = s.key := rfl
@[simp] theorem setCrc_devidIn (v : BitVec 16) (s : State) : (setCrc v s).devidIn = s.devidIn := rfl
@[simp] theorem setCrc_ibuf (v : BitVec 16) (s : State) : (setCrc v s).ibuf = s.ibuf := rfl
@[simp] theorem setCrc_ilen (v : BitVec 16) (s : State) : (setCrc v s).ilen = s.ilen := rfl
@[simp] theorem setCrc_cmd (v : BitVec 16) (s : State) : (setCrc v s).cmd = s.cmd := rfl
@[simp] theorem setCrc_cmdPending (v : BitVec 16) (s : State) : (setCrc v s).cmdPending = s.cmdPending := rfl
@[simp] theorem setCrc_status (v : BitVec 16) (s : State) : (setCrc v s).status = s.status := rfl
@[simp] theorem setCrc_stage (v : BitVec 16) (s : State) : (setCrc v s).stage = s.stage := rfl
@[simp] theorem setCrc_off (v : BitVec 16) (s : State) : (setCrc v s).off = s.off := rfl
@[simp] theorem setCrc_work (v : BitVec 16) (s : State) : (setCrc v s).work = { s.work with crc := v } := rfl
@[simp] theorem setCrc_walk (v : BitVec 16) (s : State) : (setCrc v s).walk = s.walk := rfl
@[simp] theorem setCrc_res (v : BitVec 16) (s : State) : (setCrc v s).res = s.res := rfl
@[simp] theorem setCrc_keyTable (v : BitVec 16) (s : State) : (setCrc v s).keyTable = s.keyTable := rfl
@[simp] theorem setCrc_keyDefault (v : BitVec 16) (s : State) : (setCrc v s).keyDefault = s.keyDefault := rfl
@[simp] theorem setCrc_keyRequests (v : BitVec 16) (s : State) : (setCrc v s).keyRequests = s.keyRequests := rfl
@[simp] theorem setCrc_free (v : BitVec 16) (s : State) : (setCrc v s).free = s.free := rfl

/-! ### setCipher -/

@[simp] theorem setCipher_rounds (c : Cipher) (s : State) : (setCipher c s).rounds = s.rounds := rfl
@[simp] theorem setCipher_crcInit (c : Cipher) (s : State) : (setCipher c s).crcInit = s.crcInit := rfl
@[simp] theorem setCipher_key (c : Cipher) (s : State) : (setCipher c s).key = s.key := rfl
@[simp] theorem setCipher_devidIn (c : Cipher) (s : State) : (setCipher c s).devidIn = s.devidIn := rfl
@[simp] theorem setCipher_ibuf (c : Cipher) (s : State) : (setCipher c s).ibuf = s.ibuf := rfl
@[simp] theorem setCipher_ilen (c : Cipher) (s : State) : (setCipher c s).ilen = s.ilen := rfl
@[simp] theorem setCipher_cmd (c : Cipher) (s : State) : (setCipher c s).cmd = s.cmd := rfl
@[simp] theorem setCipher_cmdPending (c : Cipher) (s : State) : (setCipher c s).cmdPending = s.cmdPending := rfl
@[simp] theorem setCipher_status (c : Cipher) (s : State) : (setCipher c s).status = s.status := rfl
@[simp] theorem setCipher_stage (c : Cipher) (s : State) : (setCipher c s).stage = s.stage := rfl
@[simp] theorem setCipher_off (c : Cipher) (s : State) : (setCipher c s).off = s.off := rfl
@[simp] theorem setCipher_work (c : Cipher) (s : State) : (setCipher c s).work = { s.work with cipher := c } := rfl
@[simp] theorem setCipher_walk (c : Cipher) (s : State) : (setCipher c s).walk = s.walk := rfl
@[simp] theorem setCipher_res (c : Cipher) (s : State) : (setCipher c s).res = s.res := rfl
@[simp] theorem setCipher_keyTable (c : Cipher) (s : State) : (setCipher c s).keyTable = s.keyTable := rfl
@[simp] theorem setCipher_keyDefault (c : Cipher) (s : State) : (setCipher c s).keyDefault = s.keyDefault := rfl
@[simp] theorem setCipher_keyRequests (c : Cipher) (s : State) : (setCipher c s).keyRequests = s.keyRequests := rfl
@[simp] theorem setCipher_free (c : Cipher) (s : State) : (setCipher c s).free = s.free := rfl

/-! ### setBody -/

@[simp] theorem setBody_rounds (bs : List Byte) (s : State) : (setBody bs s).rounds = s.rounds := rfl
@[simp] theorem setBody_crcInit (bs : List Byte) (s : State) : (setBody bs s).crcInit = s.crcInit := rfl
@[simp] theorem setBody_key (bs : List Byte) (s : State) : (setBody bs s).key = s.key := rfl
@[simp] theorem setBody_devidIn (bs : List Byte) (s : State) : (setBody bs s).devidIn = s.devidIn := rfl
@[simp] theorem setBody_ibuf (bs : List Byte) (s : State) : (setBody bs s).ibuf = s.ibuf := rfl
@[simp] theorem setBody_ilen (bs : List Byte) (s : State) : (setBody bs s).ilen = s.ilen := rfl
@[simp] theorem setBody_cmd (bs : List Byte) (s : State) : (setBody bs s).cmd = s.cmd := rfl
@[simp] theorem setBody_cmdPending (bs : List Byte) (s : State) : (setBody bs s).cmdPending = s.cmdPending := rfl
@[simp] theorem setBody_status (bs : List Byte) (s : State) : (setBody bs s).status = s.status := rfl
@[simp] theorem setBody_stage (bs : List Byte) (s : State) : (setBody bs s).stage = s.stage := rfl
@[simp] theorem setBody_off (bs : List Byte) (s : State) : (setBody bs s).off = s.off := rfl
@[simp] theorem setBody_work (bs : List Byte) (s : State) : (setBody bs s).work = { s.work with body := bs } := rfl
@[simp] theorem setBody_walk (bs : List Byte) (s : State) : (setBody bs s).walk = s.walk := rfl
@[simp] theorem setBody_res (bs : List Byte) (s : State) : (setBody bs s).res = s.res := rfl
@[simp] theorem setBody_keyTable (bs : List Byte) (s : State) : (setBody bs s).keyTable = s.keyTable := rfl
@[simp] theorem setBody_keyDefault (bs : List Byte) (s : State) : (setBody bs s).keyDefault = s.keyDefault := rfl
@[simp] theorem setBody_keyRequests (bs : List Byte) (s : State) : (setBody bs s).keyRequests = s.keyRequests := rfl
@[simp] theorem setBody_free (bs : List Byte) (s : State) : (setBody bs s).free = s.free := rfl

/-! ### setCt -/

@[simp] theorem setCt_rounds (bs : List Byte) (s : State) : (setCt bs s).rounds = s.rounds := rfl
@[simp] theorem setCt_crcInit (bs : List Byte) (s : State) : (setCt bs s).crcInit = s.crcInit := rfl
@[simp] theorem setCt_key (bs : List Byte) (s : State) : (setCt bs s).key = s.key := rfl
@[simp] theorem setCt_devidIn (bs : List Byte) (s : State) : (setCt bs s).devidIn = s.devidIn := rfl
@[simp] theorem setCt_ibuf (bs : List Byte) (s : State) : (setCt bs s).ibuf = s.ibuf := rfl
@[simp] theorem setCt_ilen (bs : List Byte) (s : State) : (setCt bs s).ilen = s.ilen := rfl
@[simp] theorem setCt_cmd (bs : List Byte) (s : State) : (setCt bs s).cmd = s.cmd := rfl
@[simp] theorem setCt_cmdPending (bs : List Byte) (s : State) : (setCt bs s).cmdPending = s.cmdPending := rfl
@[simp] theorem setCt_status (bs : List Byte) (s : State) : (setCt bs s).status = s.status := rfl
@[simp] theorem setCt_stage (bs : List Byte) (s : State) : (setCt bs s).stage = s.stage := rfl
@[simp] theorem setCt_off (bs : List Byte) (s : State) : (setCt bs s).off = s.off := rfl
@[simp] theorem setCt_work (bs : List Byte) (s : State) : (setCt bs s).work = { s.work with ct := bs } := rfl
@[simp] theorem setCt_walk (bs : List Byte) (s : State) : (setCt bs s).walk = s.walk := rfl
@[simp] theorem setCt_res (bs : List Byte) (s : State) : (setCt bs s).res = s.res := rfl
@[simp] theorem setCt_keyTable (bs : List Byte) (s : State) : (setCt bs s).keyTable = s.keyTable := rfl
@[simp] theorem setCt_keyDefault (bs : List Byte) (s : State) : (setCt bs s).keyDefault = s.keyDefault := rfl
@[simp] theorem setCt_keyRequests (bs : List Byte) (s : State) : (setCt bs s).keyRequests = s.keyRequests := rfl
@[simp] theorem setCt_free (bs : List Byte) (s : State) : (setCt bs s).free = s.free := rfl

/-! ### setPt -/

@[simp] theorem setPt_rounds (bs : List Byte) (s : State) : (setPt bs s).rounds = s.rounds := rfl
@[simp] theorem setPt_crcInit (bs : List Byte) (s : State) : (setPt bs s).crcInit = s.crcInit := rfl
@[simp] theorem setPt_key (bs : List Byte) (s : State) : (setPt bs s).key = s.key := rfl
@[simp] theorem setPt_devidIn (bs : List Byte) (s : State) : (setPt bs s).devidIn = s.devidIn := rfl
@[simp] theorem setPt_ibuf (bs : List Byte) (s : State) : (setPt bs s).ibuf = s.ibuf := rfl
@[simp] theorem setPt_ilen (bs : List Byte) (s : State) : (setPt bs s).ilen = s.ilen := rfl
@[simp] theorem setPt_cmd (bs : List Byte) (s : State) : (setPt bs s).cmd = s.cmd := rfl
@[simp] theorem setPt_cmdPending (bs : List Byte) (s : State) : (setPt bs s).cmdPending = s.cmdPending := rfl
@[simp] theorem setPt_status (bs : List Byte) (s : State) : (setPt bs s).status = s.status := rfl
@[simp] theorem setPt_stage (bs : List Byte) (s : State) : (setPt bs s).stage = s.stage := rfl
@[simp] theorem setPt_off (bs : List Byte) (s : State) : (setPt bs s).off = s.off := rfl
@[simp] theorem setPt_work (bs : List Byte) (s : State) : (setPt bs s).work = { s.work with pt := bs } := rfl
@[simp] theorem setPt_walk (bs : List Byte) (s : State) : (setPt bs s).walk = s.walk := rfl
@[simp] theorem setPt_res (bs : List Byte) (s : State) : (setPt bs s).res = s.res := rfl
@[simp] theorem setPt_keyTable (bs : List Byte) (s : State) : (setPt bs s).keyTable = s.keyTable := rfl
@[simp] theorem setPt_keyDefault (bs : List Byte) (s : State) : (setPt bs s).keyDefault = s.keyDefault := rfl
@[simp] theorem setPt_keyRequests (bs : List Byte) (s : State) : (setPt bs s).keyRequests = s.keyRequests := rfl
@[simp] theorem setPt_free (bs : List Byte) (s : State) : (setPt bs s).free = s.free := rfl

/-! ### markPayload -/

@[simp] theorem markPayload_rounds (s : State) : (markPayload s).rounds = s.rounds := rfl
@[simp] theorem markPayload_crcInit (s : State) : (markPayload s).crcInit = s.crcInit := rfl
@[simp] theorem markPayload_key (s : State) : (markPayload s).key = s.key := rfl
@[simp] theorem markPayload_devidIn (s : State) : (markPayload s).devidIn = s.devidIn := rfl
@[simp] theorem markPayload_ibuf (s : State) : (markPayload s).ibuf = s.ibuf := rfl
@[simp] theorem markPayload_ilen (s : State) : (markPayload s).ilen = s.ilen := rfl
@[simp] theorem markPayload_cmd (s : State) : (markPayload s).cmd = s.cmd := rfl
@[simp] theorem markPayload_cmdPending (s : State) : (markPayload s).cmdPending = s.cmdPending := rfl
@[simp] theorem markPayload_status (s : State) : (markPayload s).status = s.status.payloadReached := rfl
@[simp] theorem markPayload_stage (s : State) : (markPayload s).stage = s.stage := rfl
@[simp] theorem markPayload_off (s : State) : (markPayload s).off = s.off := rfl
@[simp] theorem markPayload_work (s : State) : (markPayload s).work = s.work := rfl
@[simp] theorem markPayload_walk (s : State) : (markPayload s).walk = s.walk := rfl
@[simp] theorem markPayload_res (s : State) : (markPayload s).res = s.res := rfl
@[simp] theorem markPayload_keyTable (s : State) : (markPayload s).keyTable = s.keyTable := rfl
@[simp] theorem markPayload_keyDefault (s : State) : (markPayload s).keyDefault = s.keyDefault := rfl
@[simp] theorem markPayload_keyRequests (s : State) : (markPayload s).keyRequests = s.keyRequests := rfl
@[simp] theorem markPayload_free (s : State) : (markPayload s).free = s.free := rfl

/-! ### requestKey -/

@[simp] theorem requestKey_rounds (q : List Byte) (s : State) : (requestKey q s).rounds = s.rounds := rfl
@[simp] theorem requestKey_crcInit (q : List Byte) (s : State) : (requestKey q s).crcInit = s.crcInit := rfl
@[simp] theorem requestKey_key (q : List Byte) (s : State) : (requestKey q s).key = s.key := rfl
@[simp] theorem requestKey_devidIn (q : List Byte) (s : State) : (requestKey q s).devidIn = s.devidIn := rfl
@[simp] theorem requestKey_ibuf (q : List Byte) (s : State) : (requestKey q s).ibuf = s.ibuf := rfl
@[simp] theorem requestKey_ilen (q : List Byte) (s : State) : (requestKey q s).ilen = s.ilen := rfl
@[simp] theorem requestKey_cmd (q : List Byte) (s : State) : (requestKey q s).cmd = s.cmd := rfl
@[simp] theorem requestKey_cmdPending (q : List Byte) (s : State) : (requestKey q s).cmdPending = s.cmdPending := rfl
@[simp] theorem requestKey_status (q : List Byte) (s : State) : (requestKey q s).status = s.status := rfl
@[simp] theorem requestKey_stage (q : List Byte) (s : State) : (requestKey q s).stage = s.stage := rfl
@[simp] theorem requestKey_off (q : List Byte) (s : State) : (requestKey q s).off = s.off := rfl
@[simp] theorem requestKey_work (q : List Byte) (s : State) : (requestKey q s).work = s.work := rfl
@[simp] theorem requestKey_walk (q : List Byte) (s : State) : (requestKey q s).walk = s.walk := rfl
@[simp] theorem requestKey_res (q : List Byte) (s : State) : (requestKey q s).res = s.res := rfl
@[simp] theorem requestKey_keyTable (q : List Byte) (s : State) : (requestKey q s).keyTable = s.keyTable := rfl
@[simp] theorem requestKey_keyDefault (q : List Byte) (s : State) : (requestKey q s).keyDefault = s.keyDefault := rfl
@[simp] theorem requestKey_keyRequests (q : List Byte) (s : State) : (requestKey q s).keyRequests = s.keyRequests ++ [q] := rfl
@[simp] theorem requestKey_free (q : List Byte) (s : State) : (requestKey q s).free = s.free := rfl

/-! ### setParse -/

@[simp] theorem setParse_rounds (c : ParseCtx) (s : State) : (setParse c s).rounds = s.rounds := rfl
@[simp] theorem setParse_crcInit (c : ParseCtx) (s : State) : (setParse c s).crcInit = s.crcInit := rfl
@[simp] theorem setParse_key (c : ParseCtx) (s : State) : (setParse c s).key = s.key := rfl
@[simp] theorem setParse_devidIn (c : ParseCtx) (s : State) : (setParse c s).devidIn = s.devidIn := rfl
@[simp] theorem setParse_ibuf (c : ParseCtx) (s : State) : (setParse c s).ibuf = s.ibuf := rfl
@[simp] theorem setParse_ilen (c : ParseCtx) (s : State) : (setParse c s).ilen = s.ilen := rfl
@[simp] theorem setParse_cmd (c : ParseCtx) (s : State) : (setParse c s).cmd = s.cmd := rfl
@[simp] theorem setParse_cmdPending (c : ParseCtx) (s : State) : (setParse c s).cmdPending = s.cmdPending := rfl
@[simp] theorem setParse_status (c : ParseCtx) (s : State) : (setParse c s).status = s.status := rfl
@[simp] theorem setParse_stage (c : ParseCtx) (s : State) : (setParse c s).stage = s.stage := rfl
@[simp] theorem setParse_off (c : ParseCtx) (s : State) : (setParse c s).off = c.off := rfl
@[simp] theorem setParse_work (c : ParseCtx) (s : State) : (setParse c s).work = s.work := rfl
@[simp] theorem setParse_walk (c : ParseCtx) (s : State) : (setParse c s).walk = s.walk := rfl
@[simp] theorem setParse_res (c : ParseCtx) (s : State) : (setParse c s).res = { s.res with padLen := c.padLen, recq := c.recq, warnq := c.warnq, errq := c.errq } := rfl
@[simp] theorem setParse_keyTable (c : ParseCtx) (s : State) : (setParse c s).keyTable = s.keyTable := rfl
@[simp] theorem setParse_keyDefault (c : ParseCtx) (s : State) : (setParse c s).keyDefault = s.keyDefault := rfl
@[simp] theorem setParse_keyRequests (c : ParseCtx) (s : State) : (setParse c s).keyRequests = s.keyRequests := rfl
@[simp] theorem setParse_free (c : ParseCtx) (s : State) : (setParse c s).free = s.free := rfl

/-! ### setWalk -/

@[simp] theorem setWalk_rounds (w : Walk) (s : State) : (setWalk w s).rounds = s.rounds := rfl
@[simp] theorem setWalk_crcInit (w : Walk) (s : State) : (setWalk w s).crcInit = s.crcInit := rfl
@[simp] theorem setWalk_key (w : Walk) (s : State) : (setWalk w s).key = s.key := rfl
@[simp] theorem setWalk_devidIn (w : Walk) (s : State) : (setWalk w s).devidIn = s.devidIn := rfl
@[simp] theorem setWalk_ibuf (w : Walk) (s : State) : (setWalk w s).ibuf = s.ibuf := rfl
@[simp] theorem setWalk_ilen (w : Walk) (s : State) : (setWalk w s).ilen = s.ilen := rfl
@[simp] theorem setWalk_cmd (w : Walk) (s : State) : (setWalk w s).cmd = s.cmd := rfl
@[simp] theorem setWalk_cmdPending (w : Walk) (s : State) : (setWalk w s).cmdPending = s.cmdPending := rfl
@[simp] theorem setWalk_status (w : Walk) (s : State) : (setWalk w s).status = s.status := rfl
@[simp] theorem setWalk_stage (w : Walk) (s : State) : (setWalk w s).stage = s.stage := rfl
@[simp] theorem setWalk_off (w : Walk) (s : State) : (setWalk w s).off = s.off := rfl
@[simp] theorem setWalk_work (w : Walk) (s : State) : (setWalk w s).work = s.work := rfl
@[simp] theorem setWalk_walk (w : Walk) (s : State) : (setWalk w s).walk = w := rfl
@[simp] theorem setWalk_res (w : Walk) (s : State) : (setWalk w s).res = s.res := rfl
@[simp] theorem setWalk_keyTable (w : Walk) (s : State) : (setWalk w s).keyTable = s.keyTable := rfl
@[simp] theorem setWalk_keyDefault (w : Walk) (s : State) : (setWalk w s).keyDefault = s.keyDefault := rfl
@[simp] theorem setWalk_keyRequests (w : Walk) (s : State) : (setWalk w s).keyRequests = s.keyRequests := rfl
@[simp] theorem setWalk_free (w : Walk) (s : State) : (setWalk w s).free = s.free := rfl

/-! ### setAnomalies -/

@[simp] theorem setAnomalies_rounds (w : List Warning) (e : List NfError) (s : State) : (setAnomalies w e s).rounds = s.rounds := rfl
@[simp] theorem setAnomalies_crcInit (w : List Warning) (e : List NfError) (s : State) : (setAnomalies w e s).crcInit = s.crcInit := rfl
@[simp] theorem setAnomalies_key (w : List Warning) (e : List NfError) (s : State) : (setAnomalies w e s).key = s.key := rfl
@[simp] theorem setAnomalies_devidIn (w : List Warning) (e : List NfError) (s : State) : (setAnomalies w e s).devidIn = s.devidIn := rfl
@[simp] theorem setAnomalies_ibuf (w : List Warning) (e : List NfError) (s : State) : (setAnomalies w e s).ibuf = s.ibuf := rfl
@[simp] theorem setAnomalies_ilen (w : List Warning) (e : List NfError) (s : State) : (setAnomalies w e s).ilen = s.ilen := rfl
@[simp] theorem setAnomalies_cmd (w : List Warning) (e : List NfError) (s : State) : (setAnomalies w e s).cmd = s.cmd := rfl
@[simp] theorem setAnomalies_cmdPending (w : List Warning) (e : List NfError) (s : State) : (setAnomalies w e s).cmdPending = s.cmdPending := rfl
@[simp] theorem setAnomalies_status (w : List Warning) (e : List NfError) (s : State) : (setAnomalies w e s).status = s.status := rfl
@[simp] theorem setAnomalies_stage (w : List Warning) (e : List NfError) (s : State) : (setAnomalies w e s).stage = s.stage := rfl
@[simp] theorem setAnomalies_off (w : List Warning) (e : List NfError) (s : State) : (setAnomalies w e s).off = s.off := rfl
@[simp] theorem setAnomalies_work (w : List Warning) (e : List NfError) (s : State) : (setAnomalies w e s).work = s.work := rfl
@[simp] theorem setAnomalies_walk (w : List Warning) (e : List NfError) (s : State) : (setAnomalies w e s).walk = s.walk := rfl
@[simp] theorem setAnomalies_res (w : List Warning) (e : List NfError) (s : State) : (setAnomalies w e s).res = { s.res with warnq := w, errq := e } := rfl
@[simp] theorem setAnomalies_keyTable (w : List Warning) (e : List NfError) (s : State) : (setAnomalies w e s).keyTable = s.keyTable := rfl
@[simp] theorem setAnomalies_keyDefault (w : List Warning) (e : List NfError) (s : State) : (setAnomalies w e s).keyDefault = s.keyDefault := rfl
@[simp] theorem setAnomalies_keyRequests (w : List Warning) (e : List NfError) (s : State) : (setAnomalies w e s).keyRequests = s.keyRequests := rfl
@[simp] theorem setAnomalies_free (w : List Warning) (e : List NfError) (s : State) : (setAnomalies w e s).free = s.free := rfl

/-! ### setRecq -/

@[simp] theorem setRecq_rounds (r : List Record) (s : State) : (setRecq r s).rounds = s.rounds := rfl
@[simp] theorem setRecq_crcInit (r : List Record) (s : State) : (setRecq r s).crcInit = s.crcInit := rfl
@[simp] theorem setRecq_key (r : List Record) (s : State) : (setRecq r s).key = s.key := rfl
@[simp] theorem setRecq_devidIn (r : List Record) (s : State) : (setRecq r s).devidIn = s.devidIn := rfl
@[simp] theorem setRecq_ibuf (r : List Record) (s : State) : (setRecq r s).ibuf = s.ibuf := rfl
@[simp] theorem setRecq_ilen (r : List Record) (s : State) : (setRecq r s).ilen = s.ilen := rfl
@[simp] theorem setRecq_cmd (r : List Record) (s : State) : (setRecq r s).cmd = s.cmd := rfl
@[simp] theorem setRecq_cmdPending (r : List Record) (s : State) : (setRecq r s).cmdPending = s.cmdPending := rfl
@[simp] theorem setRecq_status (r : List Record) (s : State) : (setRecq r s).status = s.status := rfl
@[simp] theorem setRecq_stage (r : List Record) (s : State) : (setRecq r s).stage = s.stage := rfl
@[simp] theorem setRecq_off (r : List Record) (s : State) : (setRecq r s).off = s.off := rfl
@[simp] theorem setRecq_work (r : List Record) (s : State) : (setRecq r s).work = s.work := rfl
@[simp] theorem setRecq_walk (r : List Record) (s : State) : (setRecq r s).walk = s.walk := rfl
@[simp] theorem setRecq_res (r : List Record) (s : State) : (setRecq r s).res = { s.res with recq := r } := rfl
@[simp] theorem setRecq_keyTable (r : List Record) (s : State) : (setRecq r s).keyTable = s.keyTable := rfl
@[simp] theorem setRecq_keyDefault (r : List Record) (s : State) : (setRecq r s).keyDefault = s.keyDefault := rfl
@[simp] theorem setRecq_keyRequests (r : List Record) (s : State) : (setRecq r s).keyRequests = s.keyRequests := rfl
@[simp] theorem setRecq_free (r : List Record) (s : State) : (setRecq r s).free = s.free := rfl

/-! ### The payload walk's view of the state -/

@[simp] theorem parseCtx_off (s : State) : (parseCtx s).off = s.off := rfl
@[simp] theorem parseCtx_padLen (s : State) : (parseCtx s).padLen = s.res.padLen := rfl
@[simp] theorem parseCtx_recq (s : State) : (parseCtx s).recq = s.res.recq := rfl
@[simp] theorem parseCtx_warnq (s : State) : (parseCtx s).warnq = s.res.warnq := rfl
@[simp] theorem parseCtx_errq (s : State) : (parseCtx s).errq = s.res.errq := rfl
@[simp] theorem parseCtx_ended (s : State) : (parseCtx s).ended = false := rfl

/-! ### STATUS -/

@[simp] theorem started_endOk : Status.started.endOk = { done := true, ok := true } := rfl
@[simp] theorem started_endFatal : Status.started.endFatal = { done := true, fatal := true } := rfl
@[simp] theorem started_endCmdErr : Status.started.endCmdErr = { done := true, cmdErr := true } := rfl

end Sys2Proof.Machine
end

