-- ==== Sys2Proof/Laws/KeyPort.lean ====
section
/-! SUPPORT. The key port: what it answers, and that the plain data of State can hold every resolver
(43_decode_pipeline.md R143, log 8). -/

namespace Sys2Proof.Machine

theorem keyAnswer_listed {s : State} {q key : List Byte} (h : resolve s.keyTable q = some key) :
    keyAnswer s q = some key := by simp [keyAnswer, h]

theorem keyAnswer_unlisted {s : State} {q : List Byte} (h : resolve s.keyTable q = none) :
    keyAnswer s q = s.keyDefault := by simp [keyAnswer, h]

/-- A table of the answers of `KR` to the strings `qs`. -/
def tableOf (KR : List Byte → Option (List Byte)) (qs : List (List Byte)) : List (List Byte × List Byte) :=
  qs.filterMap fun q => (KR q).map fun key => (q, key)

theorem resolve_tableOf (KR : List Byte → Option (List Byte)) (qs : List (List Byte)) (q : List Byte) :
    resolve (tableOf KR qs) q = if q ∈ qs then KR q else none := by
  induction qs with
  | nil => simp [tableOf, resolve]
  | cons p qs ih =>
    unfold tableOf at ih ⊢
    cases hp : KR p with
    | none =>
      by_cases hq : q = p
      · subst hq; simp [hp, ih]
      · simp [hp, hq, ih]
    | some key =>
      by_cases hq : q = p
      · subst hq; simp [hp, resolve]
      · simp [hp, hq, resolve, ih]

/-- For every resolver there is a table that answers every device id's string as it does. -/
theorem every_resolver_is_a_table (KR : List Byte → Option (List Byte)) :
    ∃ table, ∀ d : BitVec 64, resolve table (decString d) = KR (decString d) := by
  refine ⟨tableOf KR ((List.range (2 ^ 64)).map fun n => decString (BitVec.ofNat 64 n)), fun d => ?_⟩
  rw [resolve_tableOf, if_pos]
  exact List.mem_map.mpr ⟨d.toNat, List.mem_range.mpr d.isLt, by simp⟩

end Sys2Proof.Machine
end

