-- ==== Sys2Proof/Laws/Memory.lean ====
section
/-! SUPPORT. IBUF: reads after writes, and the canonical form every write keeps. -/

namespace Sys2Proof.Machine

theorem memRead_memWrite_same (m : List Host.Cell) (a : Nat) (v : Byte) : memRead (memWrite m a v) a = some v := by
  induction m with
  | nil => simp [memWrite, memRead]
  | cons c rest ih =>
    obtain ⟨b, w⟩ := c
    unfold memWrite
    split
    · simp [memRead]
    · split
      · simp [memRead]
      · simp [memRead, *]

theorem memRead_memWrite_other (m : List Host.Cell) (a b : Nat) (v : Byte) (h : b ≠ a) :
    memRead (memWrite m a v) b = memRead m b := by
  induction m with
  | nil => simp [memWrite, memRead, h]
  | cons c rest ih =>
    obtain ⟨x, w⟩ := c
    unfold memWrite
    split
    · simp [memRead, h]
    · split
      · subst_vars; simp [memRead, h]
      · simp [memRead, ih]

theorem memRising_mono {cap lo lo' : Nat} {m : List Host.Cell} (h : memRising cap lo' m = true) (hl : lo ≤ lo') :
    memRising cap lo m = true := by
  cases m with
  | nil => rfl
  | cons c rest =>
    obtain ⟨a, v⟩ := c
    simp only [memRising, Bool.and_eq_true, decide_eq_true_eq] at *
    exact ⟨⟨by omega, h.1.2⟩, h.2⟩

theorem memRising_memWrite {cap lo : Nat} {m : List Host.Cell} {a : Nat} (v : Byte) (h : memRising cap lo m = true)
    (hl : lo ≤ a) (hc : a < cap) : memRising cap lo (memWrite m a v) = true := by
  induction m generalizing lo with
  | nil => simp [memWrite, memRising, hl, hc]
  | cons c rest ih =>
    obtain ⟨b, w⟩ := c
    simp only [memRising, Bool.and_eq_true, decide_eq_true_eq] at h
    unfold memWrite
    split
    · simp only [memRising, Bool.and_eq_true, decide_eq_true_eq]
      exact ⟨⟨hl, hc⟩, ⟨by omega, h.1.2⟩, h.2⟩
    · split
      · subst_vars; simp only [memRising, Bool.and_eq_true, decide_eq_true_eq]; exact h
      · simp only [memRising, Bool.and_eq_true, decide_eq_true_eq]
        exact ⟨h.1, ih h.2 (by omega)⟩

/-- A write inside the buffer keeps the canonical form. -/
theorem memWrite_wf {m : List Host.Cell} {a : Nat} (v : Byte) (h : Memory.wf m = true) (ha : a < Config.BUF_CAP) :
    Memory.wf (memWrite m a v) = true := memRising_memWrite v h (Nat.zero_le a) ha

/-- A block of writes inside the buffer keeps the canonical form. -/
theorem memWriteN_wf {m : List Host.Cell} {vs : List Byte} {a : Nat} (h : Memory.wf m = true)
    (ha : a + vs.length ≤ Config.BUF_CAP) : Memory.wf (memWriteN m a vs) = true := by
  induction vs generalizing m a with
  | nil => exact h
  | cons v vs ih =>
    simp only [List.length_cons] at ha
    exact ih (memWrite_wf v h (by omega)) (by omega)

theorem reset_memory_wf : Memory.wf State.reset.ibuf = true := rfl

theorem memRead_memWriteN_below (m : List Host.Cell) (vs : List Byte) (a b : Nat) (h : b < a) :
    memRead (memWriteN m a vs) b = memRead m b := by
  induction vs generalizing m a with
  | nil => rfl
  | cons v vs ih =>
    rw [memWriteN, ih _ _ (by omega), memRead_memWrite_other _ _ _ _ (by omega)]

/-- What has been written is what is read. -/
theorem memReadN_memWriteN (m : List Host.Cell) (vs : List Byte) (a : Nat) :
    memReadN (memWriteN m a vs) a vs.length = .ok vs := by
  induction vs generalizing m a with
  | nil => rfl
  | cons v vs ih =>
    simp only [memWriteN, List.length_cons, memReadN]
    rw [memRead_memWriteN_below _ _ _ _ (by omega), memRead_memWrite_same, ih]

/-- An input stored gives every command the operand `bs`. -/
theorem readInput_storeInput (bs : List Byte) (s : State) (h : bs.length ≤ Config.BUF_CAP) :
    readInput (storeInput bs s) = .ok bs := by
  have hl : (BitVec.ofNat 16 bs.length).toNat = bs.length := by
    simp only [BitVec.toNat_ofNat]; exact Nat.mod_eq_of_lt (by unfold Config.BUF_CAP at h; omega)
  simp only [readInput, storeInput, hl]
  exact memReadN_memWriteN s.ibuf bs 0

/-- A load answers exactly where the host has its turn and the input fits (R277, R278, R282). -/
theorem hostLoad_next {bs : List Byte} {s t : State} (h : hostLoad bs s = .next t) :
    hostTurn s = true ∧ bs.length ≤ Config.BUF_CAP ∧ t = storeInput bs s := by
  unfold hostLoad hostAct at h
  cases ht : hostTurn s with
  | false => simp [ht] at h
  | true =>
    by_cases hl : bs.length ≤ Config.BUF_CAP
    · simp only [ht, hostStore, hl, if_true] at h
      cases h
      exact ⟨rfl, hl, rfl⟩
    · simp [ht, hostStore, hl] at h

/-- A loaded input is the operand of every command. -/
theorem readInput_hostLoad {bs : List Byte} {s t : State} (h : hostLoad bs s = .next t) : readInput t = .ok bs := by
  obtain ⟨-, hl, rfl⟩ := hostLoad_next h
  exact readInput_storeInput bs s hl

/-- Every answer of the host port: reset, or a write with the host's turn. -/
theorem hostAct_next {w : HostWrite} {s t : State} (h : hostAct w s = .next t) :
    (w = .reset ∨ hostTurn s = true) ∧ hostStore w s = .next t := by
  cases w <;> first
    | exact ⟨.inl rfl, h⟩
    | (cases ht : hostTurn s with
       | false => simp [hostAct, ht] at h
       | true => simp only [hostAct, ht, if_true] at h; exact ⟨.inr rfl, h⟩)

theorem memReadN_length {m : List Host.Cell} {a n : Nat} {bs : List Byte} (h : memReadN m a n = .ok bs) :
    bs.length = n := by
  induction n generalizing a bs with
  | zero => simp [memReadN] at h; simp [← h]
  | succ n ih =>
    simp only [memReadN] at h
    split at h
    · cases h
    · split at h
      · next vs hvs => cases h; simp [ih hvs]
      · cases h

/-- The operand of a command has ILEN bytes, so at most BUF_CAP. -/
theorem readInput_length {s : State} {bs : List Byte} (h : readInput s = .ok bs) : bs.length = s.ilen.toNat :=
  memReadN_length h

/-- A byte read is the byte the buffer holds. -/
theorem memReadN_get {m : List Host.Cell} {a n : Nat} {bs : List Byte} (h : memReadN m a n = .ok bs) (k : Nat)
    (hk : k < n) : bs[k]? = memRead m (a + k) := by
  induction n generalizing a bs k with
  | zero => omega
  | succ n ih =>
    simp only [memReadN] at h
    split at h
    · cases h
    · next v hv =>
      split at h
      · next vs hvs =>
        cases h
        cases k with
        | zero => simp [hv]
        | succ k => simp only [List.getElem?_cons_succ]; rw [ih hvs k (by omega)]; congr 1; omega
      · cases h

end Sys2Proof.Machine
end

