-- ==== Sys2Proof/Laws/Ops.lean ====
section
/-! SUPPORT. For each shared operation, what it can do: commands, their operand, cipher runs, symbols of a walk, the
step. -/

namespace Sys2Proof.Machine

@[simp] theorem readInput_startCommand (s : State) : readInput (startCommand s) = readInput s := rfl

theorem mayStart_rest {s : State} (h : s.status.busy = false) : mayStart s = true := by simp [mayStart, h]

theorem mayStart_pending {s : State} (h : s.cmdPending = true) : mayStart s = true := by simp [mayStart, h]

theorem mayStart_eq_false {s : State} : mayStart s = false ↔ s.status.busy = true ∧ s.cmdPending = false := by
  simp [mayStart]

/-- A command with no other command running is run from its start. -/
theorem runCommand_rest {s : State} (body : State → Out) (h : mayStart s = true) :
    runCommand body s = body (startCommand s) := by simp [runCommand, h]

theorem runCommand_busy {s : State} (body : State → Out) (h : mayStart s = false) :
    runCommand body s = .refused .commandWhileBusy := by simp [runCommand, h]

/-- A command that answers a next state ran from its start. -/
theorem runCommand_next {body : State → Out} {s t : State} (h : runCommand body s = .next t) :
    mayStart s = true ∧ body (startCommand s) = .next t := by
  cases hb : mayStart s with
  | false => rw [runCommand_busy body hb] at h; cases h
  | true => rw [runCommand_rest body hb] at h; exact ⟨rfl, h⟩

/-- The start of a pending command was made at the write of CMD: making it again only takes the command off (R11). -/
theorem startCommand_writeCmd (code : Byte) (s : State) :
    startCommand (writeCmd code s) = { startCommand s with cmd := code } := rfl

theorem withInput_ok {s : State} {bs : List Byte} (body : List Byte → State → Out) (h : readInput s = .ok bs) :
    withInput body s = body bs s := by simp [withInput, h]

theorem withInput_unwritten {s : State} {a : Nat} (body : List Byte → State → Out) (h : readInput s = .error a) :
    withInput body s = .fault (.ibufUnwritten a) := by simp [withInput, h]

/-- A body that answers a next state had all of its operand. -/
theorem withInput_next {body : List Byte → State → Out} {s t : State} (h : withInput body s = .next t) :
    ∃ bs, readInput s = .ok bs ∧ body bs s = .next t := by
  cases hr : readInput s with
  | ok bs => exact ⟨bs, rfl, by rwa [withInput_ok body hr] at h⟩
  | error a => rw [withInput_unwritten body hr] at h; cases h

/-- The two ways out of a cipher run: turned away, or the output with the registers it leaves. -/
theorem cipherRun_cases (blockFn : Nat → Cipher → Cipher) (bs key : List Byte) (s : State) :
    (∃ c, admission (roundsOf s) bs = some c ∧ cipherRun blockFn bs key s = .error c) ∨
    (admission (roundsOf s) bs = none ∧ ∃ c, cipherRun blockFn bs key s =
      .ok ((ecb (blockFn (roundsOf s).toNat) bs key s.work.cipher).1, setCipher c s)) := by
  unfold cipherRun
  cases admission (roundsOf s) bs with
  | some c => exact .inl ⟨c, rfl, rfl⟩
  | none => exact .inr ⟨rfl, _, rfl⟩

/-- The admission of a cipher run (R106): exactly a positive round count and a positive multiple of the block. -/
theorem admit_none {n : Int} {bs : List Byte} :
    admission n bs = none ↔ 0 < n ∧ bs.length ≠ 0 ∧ bs.length % Config.BLOCK = 0 := by
  unfold admission
  by_cases h1 : n ≤ 0
  · simp [h1]
  · by_cases h2 : bs.length = 0 ∨ bs.length % Config.BLOCK ≠ 0
    · simp only [h1, h2, if_true, if_false, reduceCtorEq, false_iff]; tauto
    · simp only [h1, h2, if_false, true_iff]; push Not at h2; exact ⟨by omega, h2⟩

/-- A stuffing symbol moves a stuffing scan, and only that. -/
theorem stuffStep_next {out : List Byte} {s t : State} (h : stuffStep out s = .next t) :
    ∃ sc, s.walk = .stuffing sc ∧ t = setWalk (.stuffing (sc.emit out 1)) s := by
  unfold stuffStep at h
  split at h
  · next sc hw => cases h; exact ⟨sc, hw, rfl⟩
  · cases h

/-- An unstuffing symbol moves an unstuffing scan, or aborts it. -/
theorem unstuffStep_next {sym : Nat → Symbol} {s t : State} (h : unstuffStep sym s = .next t) :
    ∃ sc, s.walk = .unstuffing sc ∧
      ((∃ out w, sym sc.i = .emit out w ∧ t = setWalk (.unstuffing (sc.emit out w)) s) ∨
       (∃ e, sym sc.i = .bad e ∧ t = raiseFatal e s)) := by
  unfold unstuffStep at h
  split at h
  · next sc hw =>
    refine ⟨sc, hw, ?_⟩
    cases hs : sym sc.i with
    | emit out w => rw [hs] at h; cases h; exact .inl ⟨out, w, rfl, rfl⟩
    | bad e => rw [hs] at h; cases h; exact .inr ⟨e, rfl, rfl⟩
  · cases h

/-- A record moves a payload walk by its rule, and ends it where the rule stops. -/
theorem recordStep_next {rule : List Byte → ParseCtx → ParseCtx} {s t : State} (h : recordStep rule s = .next t) :
    ∃ P, s.walk = .records P ∧ t = afterRecord (rule P (parseCtx s)) s := by
  unfold recordStep at h
  split at h
  · next P hw => cases h; exact ⟨P, hw, rfl⟩
  · cases h

/-- An entry moves an entry walk by its rule, and ends EVPARSE where the rule stops. -/
theorem entryStep_next {rule : List Byte → EntryCtx → EntryCtx} {s t : State} (h : entryStep rule s = .next t) :
    ∃ d p es, s.walk = .entries d p es ∧ t = afterEntry d (rule d (entryCtx p es s)) s := by
  unfold entryStep at h
  split at h
  · next d p es hw => cases h; exact ⟨d, p, es, hw, rfl⟩
  · cases h

theorem afterRecord_ended {c : ParseCtx} (s : State) (h : c.ended = true) :
    afterRecord c s = finishOk (setParse c s) := by simp [afterRecord, h]

theorem afterRecord_going {c : ParseCtx} (s : State) (h : c.ended = false) : afterRecord c s = setParse c s := by
  simp [afterRecord, h]

theorem afterEntry_ended {d : List Byte} {c : EntryCtx} (s : State) (h : c.ended = true) :
    afterEntry d c s = finishEvparse d.length c s := by simp [afterEntry, h]

theorem afterEntry_going {d : List Byte} {c : EntryCtx} (s : State) (h : c.ended = false) :
    afterEntry d c s = setWalk (.entries d c.p c.entries) (setAnomalies c.warnq c.errq s) := by
  simp [afterEntry, h]

/-- The two things a step does: the instruction it reads, or the end of the input. -/
theorem step_cases (s : State) :
    (∃ i, decode (fetchBytes s).1 (fetchBytes s).2 = .ok i ∧ i.wf = true ∧ i.space = (fetchBytes s).1 ∧
      step s = exec i s) ∨
    ((fetchBytes s).2 = [] ∧ step s = .next (atEnd s)) := by
  cases hb : (fetchBytes s).2 with
  | nil => right; exact ⟨rfl, by simp [step, hb, decode]⟩
  | cons b rest =>
    left
    obtain ⟨i, hi, hw⟩ := decode_found (fetchBytes s).1 b rest
    exact ⟨i, hi, hw.1, hw.2, by simp [step, hb, hi]⟩

/-- ERR and the flags a fatal error leaves (R240). -/
theorem raiseFatal_res_err (e : FatalError) (s : State) :
    (raiseFatal e s).res.err =
      { stage := e.reason.stage, reason := e.reason, detail := e.detail,
        devidValid := s.status.devidValid, devid := s.res.devid } := rfl

end Sys2Proof.Machine
end

