-- ==== Sys2Proof/Laws/PerInstr.lean ====
section
/-! SUPPORT. Families of statements about every instruction, one lemma per constructor. MatchesRow: the bytes the
encoder writes for a well-formed instruction match the row's match and mask of spec/opcode_table.json, over the row's
width. -/

namespace Sys2Proof.Laws.MatchesRow

/-- The row's width in bits, match and mask, as spec/opcode_table.json lists them; PAD and UNSTUFF_DANGLING have
none. -/
def tableRow : Instr → Option (Nat × Nat × Nat)
  | .crc16 => some (8, 0x01, 0xFF)
  | .xteaEnc => some (8, 0x02, 0xFF)
  | .xteaDec => some (8, 0x03, 0xFF)
  | .stuff => some (8, 0x04, 0xFF)
  | .unstuff => some (8, 0x05, 0xFF)
  | .decode => some (8, 0x06, 0xFF)
  | .parse => some (8, 0x07, 0xFF)
  | .evparse => some (8, 0x08, 0xFF)
  | .prep => some (8, 0x09, 0xFF)
  | .frame => some (8, 0x0A, 0xFF)
  | .build => some (8, 0x0B, 0xFF)
  | .illegalCmd00_00 => some (8, 0x00, 0xFF)
  | .illegalCmd0C_0F _ => some (8, 0x0C, 0xFC)
  | .illegalCmd10_1F _ => some (8, 0x10, 0xF0)
  | .illegalCmd20_3F _ => some (8, 0x20, 0xE0)
  | .illegalCmd40_7F _ => some (8, 0x40, 0xC0)
  | .illegalCmd80_FF _ => some (8, 0x80, 0x80)
  | .configCommand => some (8, 0x01, 0xFF)
  | .configResponse => some (8, 0x02, 0xFF)
  | .archive => some (8, 0x03, 0xFF)
  | .archiveAck => some (8, 0x04, 0xFF)
  | .readCommand => some (8, 0x06, 0xFF)
  | .readResponse => some (8, 0x07, 0xFF)
  | .auth => some (8, 0x08, 0xFF)
  | .telemetry => some (8, 0x09, 0xFF)
  | .rtu800Extended10 => some (8, 0x0A, 0xFF)
  | .rtu800Extended11 => some (8, 0x0B, 0xFF)
  | .rtu800Extended12 => some (8, 0x0C, 0xFF)
  | .rtu800Extended13 => some (8, 0x0D, 0xFF)
  | .rtu800Extended14 => some (8, 0x0E, 0xFF)
  | .unknown00_00 => some (8, 0x00, 0xFF)
  | .unknown05_05 => some (8, 0x05, 0xFF)
  | .unknown0F_0F => some (8, 0x0F, 0xFF)
  | .unknown10_1F _ => some (8, 0x10, 0xF0)
  | .unknown20_3F _ => some (8, 0x20, 0xE0)
  | .unknown40_7F _ => some (8, 0x40, 0xC0)
  | .unknown80_FF _ => some (8, 0x80, 0x80)
  | .pad => none
  | .stuffC0 => some (8, 0xC0, 0xFF)
  | .stuffC2 => some (8, 0xC2, 0xFF)
  | .stuffC4 => some (8, 0xC4, 0xFF)
  | .stuffLit00_7F _ => some (8, 0x00, 0x80)
  | .stuffLit80_BF _ => some (8, 0x80, 0xC0)
  | .stuffLitC1_C1 => some (8, 0xC1, 0xFF)
  | .stuffLitC3_C3 => some (8, 0xC3, 0xFF)
  | .stuffLitC5_C5 => some (8, 0xC5, 0xFF)
  | .stuffLitC6_C7 _ => some (8, 0xC6, 0xFE)
  | .stuffLitC8_CF _ => some (8, 0xC8, 0xF8)
  | .stuffLitD0_DF _ => some (8, 0xD0, 0xF0)
  | .stuffLitE0_FF _ => some (8, 0xE0, 0xE0)
  | .unstuffLit00_7F _ => some (8, 0x00, 0x80)
  | .unstuffLit80_BF _ => some (8, 0x80, 0xC0)
  | .unstuffLitC0_C3 _ => some (8, 0xC0, 0xFC)
  | .unstuffLitC5_C5 => some (8, 0xC5, 0xFF)
  | .unstuffLitC6_C7 _ => some (8, 0xC6, 0xFE)
  | .unstuffLitC8_CF _ => some (8, 0xC8, 0xF8)
  | .unstuffLitD0_DF _ => some (8, 0xD0, 0xF0)
  | .unstuffLitE0_FF _ => some (8, 0xE0, 0xE0)
  | .unstuffEscC1 => some (16, 0xC4C1, 0xFFFF)
  | .unstuffEscC3 => some (16, 0xC4C3, 0xFFFF)
  | .unstuffEscC4 => some (16, 0xC4C4, 0xFFFF)
  | .unstuffBadEsc00_7F _ => some (16, 0xC400, 0xFF80)
  | .unstuffBadEsc80_BF _ => some (16, 0xC480, 0xFFC0)
  | .unstuffBadEscC0_C0 => some (16, 0xC4C0, 0xFFFF)
  | .unstuffBadEscC2_C2 => some (16, 0xC4C2, 0xFFFF)
  | .unstuffBadEscC5_C5 => some (16, 0xC4C5, 0xFFFF)
  | .unstuffBadEscC6_C7 _ => some (16, 0xC4C6, 0xFFFE)
  | .unstuffBadEscC8_CF _ => some (16, 0xC4C8, 0xFFF8)
  | .unstuffBadEscD0_DF _ => some (16, 0xC4D0, 0xFFF0)
  | .unstuffBadEscE0_FF _ => some (16, 0xC4E0, 0xFFE0)
  | .unstuffDangling => none
  | .entryType0 => some (8, 0x00, 0xFF)
  | .entryType20 => some (8, 0x14, 0xFF)
  | .entryTypeOther01_01 => some (8, 0x01, 0xFF)
  | .entryTypeOther02_03 _ => some (8, 0x02, 0xFE)
  | .entryTypeOther04_07 _ => some (8, 0x04, 0xFC)
  | .entryTypeOther08_0F _ => some (8, 0x08, 0xF8)
  | .entryTypeOther10_13 _ => some (8, 0x10, 0xFC)
  | .entryTypeOther15_15 => some (8, 0x15, 0xFF)
  | .entryTypeOther16_17 _ => some (8, 0x16, 0xFE)
  | .entryTypeOther18_1F _ => some (8, 0x18, 0xF8)
  | .entryTypeOther20_3F _ => some (8, 0x20, 0xE0)
  | .entryTypeOther40_7F _ => some (8, 0x40, 0xC0)
  | .entryTypeOther80_FF _ => some (8, 0x80, 0x80)

/-- The bytes as one number, the first the most significant, as the table numbers a pair. -/
def word (bs : List Byte) : Nat := bs.foldl (fun w b => w * 256 + b.toNat) 0

/-- The encoding lies in the row. -/
def inRow (i : Instr) : Bool :=
  match tableRow i with
  | none => true
  | some (n, pat, mask) => (encode i).length * 8 == n && (word (encode i) &&& mask) == pat

/-- A well-formed instruction is encoded in its row. -/
def Statement (i : Instr) : Prop := (!i.wf || inRow i) = true

theorem crc16 : Statement .crc16 := by unfold Statement; decide
theorem xteaEnc : Statement .xteaEnc := by unfold Statement; decide
theorem xteaDec : Statement .xteaDec := by unfold Statement; decide
theorem stuff : Statement .stuff := by unfold Statement; decide
theorem unstuff : Statement .unstuff := by unfold Statement; decide
theorem decode : Statement .decode := by unfold Statement; decide
theorem parse : Statement .parse := by unfold Statement; decide
theorem evparse : Statement .evparse := by unfold Statement; decide
theorem prep : Statement .prep := by unfold Statement; decide
theorem frame : Statement .frame := by unfold Statement; decide
theorem build : Statement .build := by unfold Statement; decide
theorem illegalCmd00_00 : Statement .illegalCmd00_00 := by unfold Statement; decide
theorem illegalCmd0C_0F (x : Byte) : Statement (.illegalCmd0C_0F x) := by revert x; unfold Statement; decide
theorem illegalCmd10_1F (x : Byte) : Statement (.illegalCmd10_1F x) := by revert x; unfold Statement; decide
theorem illegalCmd20_3F (x : Byte) : Statement (.illegalCmd20_3F x) := by revert x; unfold Statement; decide
theorem illegalCmd40_7F (x : Byte) : Statement (.illegalCmd40_7F x) := by revert x; unfold Statement; decide
theorem illegalCmd80_FF (x : Byte) : Statement (.illegalCmd80_FF x) := by revert x; unfold Statement; decide
theorem configCommand : Statement .configCommand := by unfold Statement; decide
theorem configResponse : Statement .configResponse := by unfold Statement; decide
theorem archive : Statement .archive := by unfold Statement; decide
theorem archiveAck : Statement .archiveAck := by unfold Statement; decide
theorem readCommand : Statement .readCommand := by unfold Statement; decide
theorem readResponse : Statement .readResponse := by unfold Statement; decide
theorem auth : Statement .auth := by unfold Statement; decide
theorem telemetry : Statement .telemetry := by unfold Statement; decide
theorem rtu800Extended10 : Statement .rtu800Extended10 := by unfold Statement; decide
theorem rtu800Extended11 : Statement .rtu800Extended11 := by unfold Statement; decide
theorem rtu800Extended12 : Statement .rtu800Extended12 := by unfold Statement; decide
theorem rtu800Extended13 : Statement .rtu800Extended13 := by unfold Statement; decide
theorem rtu800Extended14 : Statement .rtu800Extended14 := by unfold Statement; decide
theorem unknown00_00 : Statement .unknown00_00 := by unfold Statement; decide
theorem unknown05_05 : Statement .unknown05_05 := by unfold Statement; decide
theorem unknown0F_0F : Statement .unknown0F_0F := by unfold Statement; decide
theorem unknown10_1F (x : Byte) : Statement (.unknown10_1F x) := by revert x; unfold Statement; decide
theorem unknown20_3F (x : Byte) : Statement (.unknown20_3F x) := by revert x; unfold Statement; decide
theorem unknown40_7F (x : Byte) : Statement (.unknown40_7F x) := by revert x; unfold Statement; decide
theorem unknown80_FF (x : Byte) : Statement (.unknown80_FF x) := by revert x; unfold Statement; decide
theorem pad : Statement .pad := by unfold Statement; decide
theorem stuffC0 : Statement .stuffC0 := by unfold Statement; decide
theorem stuffC2 : Statement .stuffC2 := by unfold Statement; decide
theorem stuffC4 : Statement .stuffC4 := by unfold Statement; decide
theorem stuffLit00_7F (x : Byte) : Statement (.stuffLit00_7F x) := by revert x; unfold Statement; decide
theorem stuffLit80_BF (x : Byte) : Statement (.stuffLit80_BF x) := by revert x; unfold Statement; decide
theorem stuffLitC1_C1 : Statement .stuffLitC1_C1 := by unfold Statement; decide
theorem stuffLitC3_C3 : Statement .stuffLitC3_C3 := by unfold Statement; decide
theorem stuffLitC5_C5 : Statement .stuffLitC5_C5 := by unfold Statement; decide
theorem stuffLitC6_C7 (x : Byte) : Statement (.stuffLitC6_C7 x) := by revert x; unfold Statement; decide
theorem stuffLitC8_CF (x : Byte) : Statement (.stuffLitC8_CF x) := by revert x; unfold Statement; decide
theorem stuffLitD0_DF (x : Byte) : Statement (.stuffLitD0_DF x) := by revert x; unfold Statement; decide
theorem stuffLitE0_FF (x : Byte) : Statement (.stuffLitE0_FF x) := by revert x; unfold Statement; decide
theorem unstuffLit00_7F (x : Byte) : Statement (.unstuffLit00_7F x) := by revert x; unfold Statement; decide
theorem unstuffLit80_BF (x : Byte) : Statement (.unstuffLit80_BF x) := by revert x; unfold Statement; decide
theorem unstuffLitC0_C3 (x : Byte) : Statement (.unstuffLitC0_C3 x) := by revert x; unfold Statement; decide
theorem unstuffLitC5_C5 : Statement .unstuffLitC5_C5 := by unfold Statement; decide
theorem unstuffLitC6_C7 (x : Byte) : Statement (.unstuffLitC6_C7 x) := by revert x; unfold Statement; decide
theorem unstuffLitC8_CF (x : Byte) : Statement (.unstuffLitC8_CF x) := by revert x; unfold Statement; decide
theorem unstuffLitD0_DF (x : Byte) : Statement (.unstuffLitD0_DF x) := by revert x; unfold Statement; decide
theorem unstuffLitE0_FF (x : Byte) : Statement (.unstuffLitE0_FF x) := by revert x; unfold Statement; decide
theorem unstuffEscC1 : Statement .unstuffEscC1 := by unfold Statement; decide
theorem unstuffEscC3 : Statement .unstuffEscC3 := by unfold Statement; decide
theorem unstuffEscC4 : Statement .unstuffEscC4 := by unfold Statement; decide
theorem unstuffBadEsc00_7F (x : Byte) : Statement (.unstuffBadEsc00_7F x) := by revert x; unfold Statement; decide
theorem unstuffBadEsc80_BF (x : Byte) : Statement (.unstuffBadEsc80_BF x) := by revert x; unfold Statement; decide
theorem unstuffBadEscC0_C0 : Statement .unstuffBadEscC0_C0 := by unfold Statement; decide
theorem unstuffBadEscC2_C2 : Statement .unstuffBadEscC2_C2 := by unfold Statement; decide
theorem unstuffBadEscC5_C5 : Statement .unstuffBadEscC5_C5 := by unfold Statement; decide
theorem unstuffBadEscC6_C7 (x : Byte) : Statement (.unstuffBadEscC6_C7 x) := by revert x; unfold Statement; decide
theorem unstuffBadEscC8_CF (x : Byte) : Statement (.unstuffBadEscC8_CF x) := by revert x; unfold Statement; decide
theorem unstuffBadEscD0_DF (x : Byte) : Statement (.unstuffBadEscD0_DF x) := by revert x; unfold Statement; decide
theorem unstuffBadEscE0_FF (x : Byte) : Statement (.unstuffBadEscE0_FF x) := by revert x; unfold Statement; decide
theorem unstuffDangling : Statement .unstuffDangling := by unfold Statement; decide
theorem entryType0 : Statement .entryType0 := by unfold Statement; decide
theorem entryType20 : Statement .entryType20 := by unfold Statement; decide
theorem entryTypeOther01_01 : Statement .entryTypeOther01_01 := by unfold Statement; decide
theorem entryTypeOther02_03 (x : Byte) : Statement (.entryTypeOther02_03 x) := by revert x; unfold Statement; decide
theorem entryTypeOther04_07 (x : Byte) : Statement (.entryTypeOther04_07 x) := by revert x; unfold Statement; decide
theorem entryTypeOther08_0F (x : Byte) : Statement (.entryTypeOther08_0F x) := by revert x; unfold Statement; decide
theorem entryTypeOther10_13 (x : Byte) : Statement (.entryTypeOther10_13 x) := by revert x; unfold Statement; decide
theorem entryTypeOther15_15 : Statement .entryTypeOther15_15 := by unfold Statement; decide
theorem entryTypeOther16_17 (x : Byte) : Statement (.entryTypeOther16_17 x) := by revert x; unfold Statement; decide
theorem entryTypeOther18_1F (x : Byte) : Statement (.entryTypeOther18_1F x) := by revert x; unfold Statement; decide
theorem entryTypeOther20_3F (x : Byte) : Statement (.entryTypeOther20_3F x) := by revert x; unfold Statement; decide
theorem entryTypeOther40_7F (x : Byte) : Statement (.entryTypeOther40_7F x) := by revert x; unfold Statement; decide
theorem entryTypeOther80_FF (x : Byte) : Statement (.entryTypeOther80_FF x) := by revert x; unfold Statement; decide

end Sys2Proof.Laws.MatchesRow
end

