-- ==== Sys2Proof/Laws/Walks.lean ====
section
/-! SUPPORT. The reads of the payload decoder, one turn of its loop, and one turn of the entry loop. -/

namespace Sys2Proof.Machine

@[simp] theorem andThen_got {α β : Type} (v : α) (c : ParseCtx) (k : α → ParseCtx → Got β) :
    (Got.got v c).andThen k = k v c := rfl

@[simp] theorem andThen_failed {α β : Type} (f : LocalFail) (c : ParseCtx) (k : α → ParseCtx → Got β) :
    (Got.failed f c : Got α).andThen k = .failed f c := rfl

/-- A chain of reads that succeeds has its first read succeed. -/
theorem andThen_eq_got {α β : Type} {g : Got α} {k : α → ParseCtx → Got β} {v : β} {c : ParseCtx}
    (h : g.andThen k = .got v c) : ∃ u c', g = .got u c' ∧ k u c' = .got v c := by
  cases g with
  | got u c' => exact ⟨u, c', rfl, h⟩
  | failed f c' => cases h

/-- `rdN` inside the payload (R162). -/
theorem rdN_inside {n : Nat} {P : List Byte} {c : ParseCtx} (h : c.off + n ≤ P.length) :
    rdN n P c = .got (slice P c.off (c.off + n)) { c with off := c.off + n } := by
  unfold rdN; rw [if_neg (by omega)]

/-- `rdN` past the end of the payload (R162). -/
theorem rdN_past {n : Nat} {P : List Byte} {c : ParseCtx} (h : P.length < c.off + n) :
    rdN n P c = .failed ⟨c.off, n, P.length - c.off⟩ c := by
  unfold rdN; rw [if_pos (by omega)]

/-- `rd8` at a byte of the payload. -/
theorem rd8_at {P : List Byte} {c : ParseCtx} {b : Byte} (h : P[c.off]? = some b) :
    rd8 P c = .got b { c with off := c.off + 1 } := by
  have hl : c.off < P.length := by
    by_contra hn; rw [List.getElem?_eq_none (by omega)] at h; cases h
  have hs : slice P c.off (c.off + 1) = [b] := by
    rw [List.getElem?_eq_getElem hl] at h
    cases h
    rw [slice, List.drop_take, Nat.add_sub_cancel_left, List.take_one_drop_eq_of_lt_length hl]
    rfl
  rw [rd8, rdN_inside (by omega), hs]; rfl

/-- `rd8` at the end of the payload. -/
theorem rd8_past {P : List Byte} {c : ParseCtx} (h : P.length ≤ c.off) :
    rd8 P c = .failed ⟨c.off, 1, P.length - c.off⟩ c := by
  rw [rd8, rdN_past (by omega)]; rfl

/-- `rdN` over the middle part of a payload that is split around it. -/
theorem rdN_split {n : Nat} {xs ys zs : List Byte} {c : ParseCtx} (ho : c.off = xs.length) (hn : n = ys.length) :
    rdN n (xs ++ ys ++ zs) c = .got ys { c with off := c.off + n } := by
  rw [rdN_inside (by simp; omega), ho, hn, slice_middle]

/-- The payload loop at the end of the payload, or once it has stopped. -/
theorem parseLoop_stopped {par : Config.Params} {fuel : Nat} {P : List Byte} {c : ParseCtx}
    (h : c.ended = true ∨ P.length ≤ c.off) : parseLoop par fuel P c = c := by
  cases fuel with
  | zero => rfl
  | succ n =>
    unfold parseLoop
    by_cases he : c.ended = true
    · simp [he]
    · have ho : P.length ≤ c.off := by tauto
      simp [List.drop_eq_nil_of_le ho, decode_nil]

/-- One turn of the payload loop: the record at OFF. -/
theorem parseLoop_turn {par : Config.Params} {fuel : Nat} {P : List Byte} {c : ParseCtx} {i : Instr}
    {rule : List Byte → ParseCtx → ParseCtx} (he : c.ended = false) (hd : decode .record (P.drop c.off) = .ok i)
    (hr : recordRule par i = some rule) : parseLoop par (fuel + 1) P c = parseLoop par fuel P (rule P c) := by
  rw [parseLoop]; simp [he, hd, hr]

/-- The entry loop at the end of the data, or once it has stopped. -/
theorem entryLoop_stopped {par : Config.Params} {fuel : Nat} {d : List Byte} {c : EntryCtx}
    (h : c.ended = true ∨ d.length ≤ c.p) : entryLoop par fuel d c = c := by
  cases fuel with
  | zero => rfl
  | succ n =>
    unfold entryLoop
    by_cases he : c.ended = true
    · simp [he]
    · have ho : d.length ≤ c.p := by tauto
      simp [List.drop_eq_nil_of_le ho, decode_nil]

/-- One turn of the entry loop: the entry at the cursor. -/
theorem entryLoop_turn {par : Config.Params} {fuel : Nat} {d : List Byte} {c : EntryCtx} {i : Instr}
    {rule : List Byte → EntryCtx → EntryCtx} (he : c.ended = false) (hd : decode .entry (d.drop c.p) = .ok i)
    (hr : entryRule par i = some rule) : entryLoop par (fuel + 1) d c = entryLoop par fuel d (rule d c) := by
  rw [entryLoop]; simp [he, hd, hr]

/-- The body of the entry loop where EVT_LEN has no entry (R203). -/
theorem readEntry_unknown (t : Byte) (d : List Byte) (c : EntryCtx) :
    readEntry t none d c = unknownType t d { c with p := c.p + 1 } := rfl

/-- The body of the entry loop where the value is all there (R202). -/
theorem readEntry_value {t : Byte} {l : Config.EvtLen} {d : List Byte} {c : EntryCtx}
    (h : c.p + 1 + l.toNat ≤ d.length) :
    readEntry t (some l) d c =
      { c with
        entries := c.entries ++ [⟨t, .value, slice d (c.p + 1) (c.p + 1 + l.toNat)⟩]
        p := c.p + 1 + l.toNat } := by
  simp only [readEntry]; rw [if_neg (by omega)]

/-- The body of the entry loop where the value is cut (R204). -/
theorem readEntry_cut {t : Byte} {l : Config.EvtLen} {d : List Byte} {c : EntryCtx}
    (h : d.length < c.p + 1 + l.toNat) :
    readEntry t (some l) d c = lenMismatch t l.toNat d { c with p := c.p + 1 } := by
  simp only [readEntry]; rw [if_pos (by omega)]

end Sys2Proof.Machine
end

