-- ==== Sys2Proof/Tests/Slice0.lean ====
section
/-! SUPPORT. The model's own tests: ill-formed terms the check refuses, words written out from the spec's encodings,
one-step tests whose expected results are the vectors of 95_test_vectors.md (named in each docstring), and for each
statement of Obligations.lean with hypotheses a state and operands that meet them. -/

namespace Sys2Proof.Tests

open Sys2Proof.Machine Sys2Proof.Claims

/-! ### Helpers -/

/-- The key 00 01 .. 0F of 95_test_vectors.md. -/
def keyA : Vector Byte 16 := #v[0, 1, 2, 3, 4, 5, 6, 7, 8, 9, 10, 11, 12, 13, 14, 15]

/-- A state between commands, every field written out, with the operands of 95_test_vectors.md. -/
def fresh : State where
  rounds := 32
  crcInit := 0xFFFF
  key := keyA
  devidIn := 863703030668235
  ibuf := []
  ilen := 0
  cmd := 0
  cmdPending := false
  status := {}
  stage := .none
  off := 0
  work := ⟨0, ⟨0, 0, 0, #v[0, 0, 0, 0]⟩, [], [], []⟩
  walk := .idle
  res := {}
  keyTable := [(decString 863703030668235, keyA.toList), (decString 7, [1, 2, 3, 4, 5])]
  keyDefault := none
  keyRequests := []
  free := 0

/-- `fresh` with its input. -/
def loaded (bs : List Byte) : State := storeInput bs fresh

/-- A walk of a payload, at an offset. -/
def inRecords (P : List Byte) (off : Nat) : State := { beginParse P fresh with off := off }

/-- A walk of event data, at a cursor. -/
def inEntries (d : List Byte) (p : Nat) : State := { beginEvparse d fresh with walk := .entries d p [] }

/-- EVT_LEN with the two entries the spec gives and no other. -/
def twoTypes : Config.Params where
  failPoint := .readOffset
  evtLen := fun t => if t = 0 then some .four else if t = 20 then some .one else none

/-- The instruction answers a next state that looks as told. -/
def shows (i : Instr) (s : State) (view : State → Bool) : Bool :=
  match exec i s with
  | .next t => view t
  | _ => false

/-- The instruction succeeds and leaves these bytes in OBUF. -/
def puts (i : Instr) (s : State) (bs : List Byte) : Bool :=
  shows i s fun t => t.res.obuf == bs && t.res.olen == BitVec.ofNat 18 bs.length && t.status.ok && t.status.done

/-- The instruction ends FATAL with this reason, detail and device id. -/
def aborts (i : Instr) (s : State) (r : FatalReason) (d : Detail) (id : Option (BitVec 64)) : Bool :=
  shows i s fun t => t.status.fatal && t.res.obuf == [] && t.res.err == ⟨r.stage, r, d, id.isSome, id.getD 0⟩

/-- The record instruction at the start of `P` leaves these records, and OFF there. -/
def pushes (i : Instr) (P : List Byte) (rs : List Record) (off : Nat) : Bool :=
  shows i (inRecords P 0) fun t => t.res.recq == rs && t.off == off

/-- The decoder reads `i` from `bs`. -/
def reads (sp : Space) (bs : List Byte) (i : Instr) : Bool :=
  match decode sp bs with
  | .ok j => j == i
  | .error _ => false

/-! ### Well-formedness -/

/-- Operands just outside the block of a row. -/
theorem test_wf_refuses_1 : ([
   .illegalCmd0C_0F 0x0B, .illegalCmd0C_0F 0x10, .illegalCmd10_1F 0x0F, .illegalCmd10_1F 0x20,
   .illegalCmd20_3F 0x1F, .illegalCmd20_3F 0x40, .illegalCmd40_7F 0x3F, .illegalCmd40_7F 0x80,
   .illegalCmd80_FF 0x7F, .unknown10_1F 0x0F, .unknown10_1F 0x20, .unknown20_3F 0x1F, .unknown20_3F 0x40,
   .unknown40_7F 0x3F, .unknown40_7F 0x80, .unknown80_FF 0x7F, .stuffLit00_7F 0x80, .stuffLit80_BF 0x7F,
   .stuffLit80_BF 0xC0, .stuffLitC6_C7 0xC5, .stuffLitC6_C7 0xC8, .stuffLitC8_CF 0xC7, .stuffLitC8_CF 0xD0,
   .stuffLitD0_DF 0xCF, .stuffLitD0_DF 0xE0, .stuffLitE0_FF 0xDF, .unstuffLit00_7F 0x80, .unstuffLit80_BF 0x7F,
   .unstuffLit80_BF 0xC0, .unstuffLitC0_C3 0xBF, .unstuffLitC0_C3 0xC4, .unstuffLitC6_C7 0xC5] : List Instr).all (fun i => !i.wf) = true := by decide

/-- Operands just outside the block of a row. -/
theorem test_wf_refuses_2 : ([
   .unstuffLitC6_C7 0xC8, .unstuffLitC8_CF 0xC7, .unstuffLitC8_CF 0xD0, .unstuffLitD0_DF 0xCF,
   .unstuffLitD0_DF 0xE0, .unstuffLitE0_FF 0xDF, .unstuffBadEsc00_7F 0x80, .unstuffBadEsc80_BF 0x7F,
   .unstuffBadEsc80_BF 0xC0, .unstuffBadEscC6_C7 0xC5, .unstuffBadEscC6_C7 0xC8, .unstuffBadEscC8_CF 0xC7,
   .unstuffBadEscC8_CF 0xD0, .unstuffBadEscD0_DF 0xCF, .unstuffBadEscD0_DF 0xE0, .unstuffBadEscE0_FF 0xDF,
   .entryTypeOther02_03 0x01, .entryTypeOther02_03 0x04, .entryTypeOther04_07 0x03, .entryTypeOther04_07 0x08,
   .entryTypeOther08_0F 0x07, .entryTypeOther08_0F 0x10, .entryTypeOther10_13 0x0F, .entryTypeOther10_13 0x14,
   .entryTypeOther16_17 0x15, .entryTypeOther16_17 0x18, .entryTypeOther18_1F 0x17, .entryTypeOther18_1F 0x20,
   .entryTypeOther20_3F 0x1F, .entryTypeOther20_3F 0x40, .entryTypeOther40_7F 0x3F, .entryTypeOther40_7F 0x80,
   .entryTypeOther80_FF 0x7F] : List Instr).all (fun i => !i.wf) = true := by decide

/-- The first and the last operand of each block. -/
theorem test_wf_admits_1 : ([
   .illegalCmd0C_0F 0x0C, .illegalCmd0C_0F 0x0F, .illegalCmd10_1F 0x10, .illegalCmd10_1F 0x1F,
   .illegalCmd20_3F 0x20, .illegalCmd20_3F 0x3F, .illegalCmd40_7F 0x40, .illegalCmd40_7F 0x7F,
   .illegalCmd80_FF 0x80, .illegalCmd80_FF 0xFF, .unknown10_1F 0x10, .unknown10_1F 0x1F, .unknown20_3F 0x20,
   .unknown20_3F 0x3F, .unknown40_7F 0x40, .unknown40_7F 0x7F, .unknown80_FF 0x80, .unknown80_FF 0xFF,
   .stuffLit00_7F 0x00, .stuffLit00_7F 0x7F, .stuffLit80_BF 0x80, .stuffLit80_BF 0xBF, .stuffLitC6_C7 0xC6,
   .stuffLitC6_C7 0xC7, .stuffLitC8_CF 0xC8, .stuffLitC8_CF 0xCF, .stuffLitD0_DF 0xD0, .stuffLitD0_DF 0xDF,
   .stuffLitE0_FF 0xE0, .stuffLitE0_FF 0xFF, .unstuffLit00_7F 0x00, .unstuffLit00_7F 0x7F,
   .unstuffLit80_BF 0x80, .unstuffLit80_BF 0xBF, .unstuffLitC0_C3 0xC0, .unstuffLitC0_C3 0xC3,
   .unstuffLitC6_C7 0xC6] : List Instr).all (fun i => i.wf) = true := by decide

/-- The first and the last operand of each block. -/
theorem test_wf_admits_2 : ([
   .unstuffLitC6_C7 0xC7, .unstuffLitC8_CF 0xC8, .unstuffLitC8_CF 0xCF, .unstuffLitD0_DF 0xD0,
   .unstuffLitD0_DF 0xDF, .unstuffLitE0_FF 0xE0, .unstuffLitE0_FF 0xFF, .unstuffBadEsc00_7F 0x00,
   .unstuffBadEsc00_7F 0x7F, .unstuffBadEsc80_BF 0x80, .unstuffBadEsc80_BF 0xBF, .unstuffBadEscC6_C7 0xC6,
   .unstuffBadEscC6_C7 0xC7, .unstuffBadEscC8_CF 0xC8, .unstuffBadEscC8_CF 0xCF, .unstuffBadEscD0_DF 0xD0,
   .unstuffBadEscD0_DF 0xDF, .unstuffBadEscE0_FF 0xE0, .unstuffBadEscE0_FF 0xFF, .entryTypeOther02_03 0x02,
   .entryTypeOther02_03 0x03, .entryTypeOther04_07 0x04, .entryTypeOther04_07 0x07, .entryTypeOther08_0F 0x08,
   .entryTypeOther08_0F 0x0F, .entryTypeOther10_13 0x10, .entryTypeOther10_13 0x13, .entryTypeOther16_17 0x16,
   .entryTypeOther16_17 0x17, .entryTypeOther18_1F 0x18, .entryTypeOther18_1F 0x1F, .entryTypeOther20_3F 0x20,
   .entryTypeOther20_3F 0x3F, .entryTypeOther40_7F 0x40, .entryTypeOther40_7F 0x7F, .entryTypeOther80_FF 0x80,
   .entryTypeOther80_FF 0xFF] : List Instr).all (fun i => i.wf) = true := by decide

/-! ### Decoding: the words of 30_encoding.md R61, R62, R64, R70 and 45_event_parser.md R201, written out -/

theorem test_decode_cmd_1 : ([
   ([0x01], .crc16), ([0x02], .xteaEnc), ([0x03], .xteaDec), ([0x04], .stuff), ([0x05], .unstuff),
   ([0x06], .decode), ([0x07], .parse), ([0x08], .evparse), ([0x09], .prep), ([0x0A], .frame),
   ([0x0B], .build), ([0x00], .illegalCmd00_00), ([0x0C], .illegalCmd0C_0F 0x0C),
   ([0x0F], .illegalCmd0C_0F 0x0F), ([0x10], .illegalCmd10_1F 0x10), ([0x1F], .illegalCmd10_1F 0x1F),
   ([0x20], .illegalCmd20_3F 0x20), ([0x3F], .illegalCmd20_3F 0x3F), ([0x40], .illegalCmd40_7F 0x40),
   ([0x7F], .illegalCmd40_7F 0x7F)] : List (List Byte × Instr)).all (fun x => reads .cmd x.1 x.2) = true := by decide

theorem test_decode_cmd_2 : ([
   ([0x80], .illegalCmd80_FF 0x80), ([0xFF], .illegalCmd80_FF 0xFF)] : List (List Byte × Instr)).all (fun x => reads .cmd x.1 x.2) = true := by decide

theorem test_decode_record_1 : ([
   ([0x01, 0x01], .configCommand), ([0x02, 0x01], .configResponse), ([0x03, 0x01], .archive),
   ([0x04, 0x01], .archiveAck), ([0x06, 0x01], .readCommand), ([0x07, 0x01], .readResponse),
   ([0x08, 0x01], .auth), ([0x09, 0x01], .telemetry), ([0x0A, 0x01], .rtu800Extended10),
   ([0x0B, 0x01], .rtu800Extended11), ([0x0C, 0x01], .rtu800Extended12), ([0x0D, 0x01], .rtu800Extended13),
   ([0x0E, 0x01], .rtu800Extended14), ([0x00, 0x05], .unknown00_00), ([0x05, 0x05], .unknown05_05),
   ([0x0F, 0x05], .unknown0F_0F), ([0x10, 0x05], .unknown10_1F 0x10), ([0x1F, 0x05], .unknown10_1F 0x1F),
   ([0x20, 0x05], .unknown20_3F 0x20), ([0x3F, 0x05], .unknown20_3F 0x3F)] : List (List Byte × Instr)).all (fun x => reads .record x.1 x.2) = true := by decide

theorem test_decode_record_2 : ([
   ([0x40, 0x05], .unknown40_7F 0x40), ([0x7F, 0x05], .unknown40_7F 0x7F), ([0x80, 0x05], .unknown80_FF 0x80),
   ([0xFF, 0x05], .unknown80_FF 0xFF), ([0x00], .pad), ([0x00, 0x00, 0x00], .pad)] : List (List Byte × Instr)).all (fun x => reads .record x.1 x.2) = true := by decide

theorem test_decode_stuffIn_1 : ([
   ([0xC0], .stuffC0), ([0xC2], .stuffC2), ([0xC4], .stuffC4), ([0x00, 0xC0], .stuffLit00_7F 0x00),
   ([0x7F, 0xC0], .stuffLit00_7F 0x7F), ([0x80, 0xC0], .stuffLit80_BF 0x80),
   ([0xBF, 0xC0], .stuffLit80_BF 0xBF), ([0xC1, 0xC0], .stuffLitC1_C1), ([0xC3, 0xC0], .stuffLitC3_C3),
   ([0xC5, 0xC0], .stuffLitC5_C5), ([0xC6, 0xC0], .stuffLitC6_C7 0xC6), ([0xC7, 0xC0], .stuffLitC6_C7 0xC7),
   ([0xC8, 0xC0], .stuffLitC8_CF 0xC8), ([0xCF, 0xC0], .stuffLitC8_CF 0xCF),
   ([0xD0, 0xC0], .stuffLitD0_DF 0xD0), ([0xDF, 0xC0], .stuffLitD0_DF 0xDF),
   ([0xE0, 0xC0], .stuffLitE0_FF 0xE0), ([0xFF, 0xC0], .stuffLitE0_FF 0xFF)] : List (List Byte × Instr)).all (fun x => reads .stuffIn x.1 x.2) = true := by decide

theorem test_decode_unstuffIn_1 : ([
   ([0x00, 0xC4], .unstuffLit00_7F 0x00), ([0x7F, 0xC4], .unstuffLit00_7F 0x7F),
   ([0x80, 0xC4], .unstuffLit80_BF 0x80), ([0xBF, 0xC4], .unstuffLit80_BF 0xBF),
   ([0xC0, 0xC4], .unstuffLitC0_C3 0xC0), ([0xC3, 0xC4], .unstuffLitC0_C3 0xC3),
   ([0xC5, 0xC4], .unstuffLitC5_C5), ([0xC6, 0xC4], .unstuffLitC6_C7 0xC6),
   ([0xC7, 0xC4], .unstuffLitC6_C7 0xC7), ([0xC8, 0xC4], .unstuffLitC8_CF 0xC8),
   ([0xCF, 0xC4], .unstuffLitC8_CF 0xCF), ([0xD0, 0xC4], .unstuffLitD0_DF 0xD0),
   ([0xDF, 0xC4], .unstuffLitD0_DF 0xDF), ([0xE0, 0xC4], .unstuffLitE0_FF 0xE0),
   ([0xFF, 0xC4], .unstuffLitE0_FF 0xFF), ([0xC4, 0xC1], .unstuffEscC1), ([0xC4, 0xC3], .unstuffEscC3),
   ([0xC4, 0xC4], .unstuffEscC4), ([0xC4, 0x00], .unstuffBadEsc00_7F 0x00),
   ([0xC4, 0x7F], .unstuffBadEsc00_7F 0x7F)] : List (List Byte × Instr)).all (fun x => reads .unstuffIn x.1 x.2) = true := by decide

theorem test_decode_unstuffIn_2 : ([
   ([0xC4, 0x80], .unstuffBadEsc80_BF 0x80), ([0xC4, 0xBF], .unstuffBadEsc80_BF 0xBF),
   ([0xC4, 0xC0], .unstuffBadEscC0_C0), ([0xC4, 0xC2], .unstuffBadEscC2_C2),
   ([0xC4, 0xC5], .unstuffBadEscC5_C5), ([0xC4, 0xC6], .unstuffBadEscC6_C7 0xC6),
   ([0xC4, 0xC7], .unstuffBadEscC6_C7 0xC7), ([0xC4, 0xC8], .unstuffBadEscC8_CF 0xC8),
   ([0xC4, 0xCF], .unstuffBadEscC8_CF 0xCF), ([0xC4, 0xD0], .unstuffBadEscD0_DF 0xD0),
   ([0xC4, 0xDF], .unstuffBadEscD0_DF 0xDF), ([0xC4, 0xE0], .unstuffBadEscE0_FF 0xE0),
   ([0xC4, 0xFF], .unstuffBadEscE0_FF 0xFF), ([0xC4], .unstuffDangling)] : List (List Byte × Instr)).all (fun x => reads .unstuffIn x.1 x.2) = true := by decide

theorem test_decode_entry_1 : ([
   ([0x00, 0x05], .entryType0), ([0x14, 0x05], .entryType20), ([0x01], .entryTypeOther01_01),
   ([0x02], .entryTypeOther02_03 0x02), ([0x03], .entryTypeOther02_03 0x03),
   ([0x04], .entryTypeOther04_07 0x04), ([0x07], .entryTypeOther04_07 0x07),
   ([0x08], .entryTypeOther08_0F 0x08), ([0x0F], .entryTypeOther08_0F 0x0F),
   ([0x10], .entryTypeOther10_13 0x10), ([0x13], .entryTypeOther10_13 0x13), ([0x15], .entryTypeOther15_15),
   ([0x16], .entryTypeOther16_17 0x16), ([0x17], .entryTypeOther16_17 0x17),
   ([0x18], .entryTypeOther18_1F 0x18), ([0x1F], .entryTypeOther18_1F 0x1F),
   ([0x20], .entryTypeOther20_3F 0x20), ([0x3F], .entryTypeOther20_3F 0x3F),
   ([0x40], .entryTypeOther40_7F 0x40), ([0x7F], .entryTypeOther40_7F 0x7F)] : List (List Byte × Instr)).all (fun x => reads .entry x.1 x.2) = true := by decide

theorem test_decode_entry_2 : ([
   ([0x80], .entryTypeOther80_FF 0x80), ([0xFF], .entryTypeOther80_FF 0xFF)] : List (List Byte × Instr)).all (fun x => reads .entry x.1 x.2) = true := by decide

/-- The words of the host's questions, as the opcode table numbers their bits (log 10). -/
theorem test_table_words :
    decodeTableWord 8 0x06 = some .decode ∧ decodeTableWord 8 0x0C = some (.illegalCmd0C_0F 0x0C) ∧
    decodeTableWord 16 0xC4C1 = some .unstuffEscC1 ∧ decodeTableWord 16 0xC400 = some (.unstuffBadEsc00_7F 0x00) := by
  decide

/-! ### Commands -/

set_option maxRecDepth 100000

/-- V13, and V15 with another start value. -/
theorem test_crc16 :
    shows .crc16 (loaded [0x31, 0x32, 0x33, 0x34, 0x35, 0x36, 0x37, 0x38, 0x39]) (fun t => t.res.crcOut == 0x29B1 && t.res.obuf == []) = true ∧
    shows .crc16 { loaded [0x31, 0x32, 0x33, 0x34, 0x35, 0x36, 0x37, 0x38, 0x39] with crcInit := 0x1D0F } (fun t => t.res.crcOut == 0xE5CC) = true := by decide

/-- V22. -/
theorem test_xteaEnc :
    puts .xteaEnc (loaded [0x01, 0x23, 0x45, 0x67, 0x89, 0xAB, 0xCD, 0xEF]) [0xC2, 0x51, 0x99, 0x67, 0x2E, 0xC2, 0x51, 0x83] = true := by decide

/-- V27. -/
theorem test_xteaEnc_turned_away :
    aborts .xteaEnc { loaded [0x00, 0x00, 0x00, 0x00, 0x00, 0x00, 0x00] with rounds := 0 } .cipherFailed (.cause .roundsNotPositive) none = true ∧
    aborts .xteaEnc (loaded [0x00, 0x00, 0x00, 0x00, 0x00, 0x00, 0x00]) .cipherFailed (.cause .badLength) none = true := by decide

/-- V22, and V25 with two rounds. -/
theorem test_xteaDec :
    puts .xteaDec (loaded [0xCA, 0xE7, 0x69, 0x7E, 0x00, 0x6E, 0xE9, 0x21]) [0x41, 0x42, 0x43, 0x44, 0x45, 0x46, 0x47, 0x48] = true ∧
    puts .xteaDec { loaded [0xE1, 0x9E, 0xD8, 0xEA, 0x59, 0x53, 0x3D, 0x9E] with rounds := 2 } [0x41, 0x42, 0x43, 0x44, 0x45, 0x46, 0x47, 0x48] = true := by decide

/-- V27. -/
theorem test_xteaDec_turned_away :
    aborts .xteaDec { loaded [0x00, 0x00, 0x00, 0x00, 0x00, 0x00, 0x00, 0x00] with rounds := 0xFFFFFFFF } .cipherFailed (.cause .roundsNotPositive) none = true ∧
    aborts .xteaDec (loaded []) .cipherFailed (.cause .badLength) none = true := by decide

/-- V30. -/
theorem test_stuff :
    puts .stuff (loaded [0xC0, 0xC2, 0xC4, 0xC1, 0xC3]) [0xC4, 0xC1, 0xC4, 0xC3, 0xC4, 0xC4, 0xC1, 0xC3] = true := by decide

/-- V32: an unescaped 0xC0 or 0xC2 is copied. -/
theorem test_unstuff :
    puts .unstuff (loaded [0xC0, 0xC2, 0x11, 0xC4, 0xC3]) [0xC0, 0xC2, 0x11, 0xC2] = true := by decide

/-- V31. -/
theorem test_unstuff_aborts :
    aborts .unstuff (loaded [0xC4, 0xC4, 0xC4]) .danglingEscapeByte (.offset 2) none = true ∧
    aborts .unstuff (loaded [0x11, 0x22, 0xC4, 0xC0, 0x33]) .invalidEscapeSequence (.escape 2 0xC0) none = true := by decide

/-- V42. -/
theorem test_decode :
    shows .decode (loaded [0xC0, 0xCB, 0x9B, 0x55, 0x88, 0x88, 0x11, 0x03, 0x00, 0x04, 0xA7, 0x14, 0x73, 0x43, 0x2A, 0x2C, 0x59, 0xC2]) (fun t =>
      t.status == { done := true, ok := true, frameOk := true, crcOk := true, devidValid := true } &&
      t.res.devid == 863703030668235 && t.res.obuf == [0x04, 0x07, 0x00, 0x00, 0x00, 0x00] && t.res.recq == [.archiveAck 7] &&
      t.res.padLen == 4) = true := by decide

/-- V38 and V37: a wrong trailer, and no key. -/
theorem test_decode_aborts :
    aborts .decode (loaded [0xC0, 0xCB, 0x9B, 0x55, 0x88, 0x88, 0x11, 0x03, 0x00, 0x44, 0xB2, 0xD8, 0x00, 0x65, 0x7D, 0xC9, 0x4C, 0xC2]) .crcMismatch (.crc 0x909A 0x6F65)
      (some 863703030668235) = true ∧
    aborts .decode (loaded [0xC0, 0x00, 0x00, 0x00, 0x00, 0x00, 0x00, 0x00, 0x00, 0x00, 0x00, 0x00, 0x00, 0x00, 0x00, 0x00, 0x00, 0xC2]) .missingKeyForImei .empty (some 0) = true := by decide

/-- V44. -/
theorem test_parse :
    shows .parse (loaded [0x04, 0x07, 0x01, 0x02, 0x05, 0xAA, 0xBB]) (fun t =>
      t.res.recq == [.archiveAck 7, .unknown 1 [0xAA, 0xBB]] && t.res.warnq == [⟨.payloadParseError, none⟩] &&
      t.res.errq == [⟨.payloadParse, .recordParseFailed, .parse 1 5 5 2⟩] && t.status == okStatus) = true := by decide

/-- V43. -/
theorem test_parse_padding :
    shows .parse (loaded [0x04, 0x00, 0x00, 0x00]) (fun t => t.res.recq == [.archiveAck 0] && t.res.padLen == 2) = true := by decide

/-- V53. -/
theorem test_evparse :
    shows .evparse (loaded [0x00, 0x01, 0x02, 0x03, 0x04, 0x14, 0x05]) (fun t =>
      t.res.recq == [.archive 0 [⟨0, 0, 7, [⟨0, .value, [1, 2, 3, 4]⟩, ⟨20, .value, [5]⟩]⟩]] && t.status == okStatus) = true := by decide

/-- V56. -/
theorem test_evparse_turned_away :
    shows .evparse { fresh with ilen := 256 } (fun t => t.status == cmdErrStatus && t.res == {}) = true := by decide

/-- V60. -/
theorem test_prep :
    puts .prep (loaded [0x04, 0x07]) [0x04, 0x07, 0x00, 0x00, 0x00, 0x00, 0x65, 0x6F] = true := by decide

/-- V64. -/
theorem test_frame :
    puts .frame { loaded [0x04, 0xA7, 0x14, 0x73, 0x43, 0x2A, 0x2C, 0x59] with devidIn := 12894912 }
      [0xC0, 0xC4, 0xC1, 0xC4, 0xC3, 0xC4, 0xC4, 0x00, 0x00, 0x00, 0x00, 0x00, 0x04, 0xA7, 0x14, 0x73, 0x43, 0x2A, 0x2C, 0x59, 0xC2] = true := by decide

/-- V63. -/
theorem test_build :
    puts .build (loaded [0x04, 0x1C]) [0xC0, 0xCB, 0x9B, 0x55, 0x88, 0x88, 0x11, 0x03, 0x00, 0xC4, 0xC3, 0x1F, 0xD1, 0xC5, 0xC3, 0x6A, 0xA3, 0x64, 0xC2] = true := by decide

/-- V65. -/
theorem test_build_turned_away :
    aborts .build { fresh with rounds := 0 } .cipherFailed (.cause .roundsNotPositive) none = true := by decide

/-- V66. -/
theorem test_illegal_commands :
    (illegalCommands 0xFF).all (fun i => shows i (loaded [1, 2]) fun t => t.status == cmdErrStatus && t.res == {}) = true := by decide

/-! ### Records -/

/-- V40, and cut as in V46. -/
theorem test_configCommand :
    pushes .configCommand [0x01, 0x01, 0x04, 0x78, 0x56, 0x34, 0x12] [.configCommand 1 4 [0x78, 0x56, 0x34, 0x12]] 7 = true ∧
    pushes .configCommand [0x01, 0x05] [.unknown 1 []] 2 = true := by decide

/-- V40, and cut as in V46. -/
theorem test_configResponse :
    pushes .configResponse [0x02, 0x01, 0x00] [.configResponse 1 0] 3 = true ∧
    pushes .configResponse [0x02, 0x01] [.unknown 2 []] 2 = true := by decide

/-- V41. -/
theorem test_archive :
    pushes .archive [0x03, 0x13, 0x01, 0x00, 0x10, 0x5E, 0x5F, 0x07, 0x00, 0x01, 0x02, 0x03, 0x04, 0x14, 0x05]
      [.archive 0x13 [⟨1, 1600000000, 7, [⟨0, .value, [1, 2, 3, 4]⟩, ⟨20, .value, [5]⟩]⟩]] 15 = true := by decide

/-- V46, and no event before padding as in V43. -/
theorem test_archive_cut :
    pushes .archive [0x03, 0x13, 0x01, 0x00, 0x10, 0x5E, 0x5F, 0x07, 0x00, 0x01, 0x02] [.unknown 3 [0, 1, 2]] 11 = true ∧
    pushes .archive [0x03, 0x13, 0x00, 0x00] [.archive 0x13 []] 2 = true := by decide

/-- V40, and cut as in V46. -/
theorem test_archiveAck :
    pushes .archiveAck [0x04, 0x07] [.archiveAck 7] 2 = true ∧ pushes .archiveAck [0x04] [.unknown 4 []] 1 = true := by decide

/-- V40, and cut as in V46. -/
theorem test_readCommand :
    pushes .readCommand [0x06, 0x03, 0x00] [.readCommand 3 0 []] 3 = true ∧
    pushes .readCommand [0x06, 0x03, 0x01] [.unknown 6 []] 3 = true := by decide

/-- V40, and cut as in V46. -/
theorem test_readResponse :
    pushes .readResponse [0x07, 0x03, 0x00, 0x03, 0x31, 0x32, 0x33] [.readResponse 3 0 3 [0x31, 0x32, 0x33]] 7 = true ∧
    pushes .readResponse [0x07, 0x01, 0x00, 0x02, 0xAA] [.unknown 7 [0xAA]] 5 = true := by decide

/-- V43. -/
theorem test_auth :
    pushes .auth [0x08, 0xDE, 0xAD, 0x00, 0x00] [.auth [0xDE, 0xAD, 0x00, 0x00]] 5 = true := by decide

/-- V40, and cut as in V46. -/
theorem test_telemetry :
    pushes .telemetry [0x09, 0x02, 0x01, 0x01, 0xAA, 0x02, 0x02, 0xBB, 0xCC] [.telemetry 2 [⟨1, 1, [0xAA]⟩, ⟨2, 2, [0xBB, 0xCC]⟩]] 9 = true ∧
    pushes .telemetry [0x09, 0x02, 0x01, 0x01, 0xAA, 0x02] [.unknown 9 []] 6 = true := by decide

/-- V49: each of the five ids, with the warning and the error. -/
theorem test_extended :
    extendedIds.all (fun x => shows x.1 (inRecords [x.2, 1, 2, 3] 0) fun t =>
      t.res.recq == [.rtu800Extended x.2 [1, 2, 3]] && t.res.warnq == [⟨.rtu800ExtendedId, some x.2⟩] &&
      t.res.errq == [⟨.payloadParse, .rtu800ExtendedId, .dataId x.2 0⟩] && t.off == 4) = true := by decide

/-- V49: a data id of each row, with the warning and the error. -/
theorem test_unknown :
    (unknownIds 0xFF).all (fun x => shows x.1 (inRecords [x.2, 5] 0) fun t =>
      t.res.recq == [.unknown x.2 [5]] && t.res.warnq == [⟨.unknownDataId, some x.2⟩] &&
      t.res.errq == [⟨.payloadParse, .unknownDataId, .dataId x.2 0⟩] && t.off == 2) = true := by decide

/-- V43: PAD_LEN is what is left. -/
theorem test_pad :
    shows .pad (inRecords [4, 0, 0, 0] 2) (fun t => t.res.padLen == 2 && t.res.recq == [] && t.status == okStatus) = true := by decide

/-- V50, for an EVT_LEN without the id EE. -/
theorem test_archive_anomalies :
    let c := parse twoTypes [0x03, 0x13, 0x02, 0x00, 0x00, 0x00, 0x00, 0x00, 0x01, 0x00, 0x10, 0x5E, 0x5F, 0x03, 0x00, 0x01, 0x02, 0x05, 0x11, 0x22, 0x33, 0x44, 0x01, 0xEE, 0x00, 0x00]
    c.recq = [.archive 0x13 [⟨2, 0, 0, []⟩, ⟨1, 1600000000, 3, [⟨0, .lenMismatch, [1, 2]⟩]⟩,
      ⟨5, 0x44332211, 1, [⟨0xEE, .unknown, []⟩]⟩]] ∧
    c.warnq = [⟨.eventTypeLenMismatch, some 0⟩, ⟨.unknownTypeId, some 0xEE⟩] ∧ c.padLen = 2 := by decide

/-! ### Stuffing symbols -/

/-- The table of R64, a symbol a step. -/
theorem test_stuff_symbols :
    (stuffSymbols 0xD5).all (fun x => shows x.1 (beginStuff [0xC0] fresh) fun t =>
      t.walk == .stuffing ⟨[0xC0], 1, x.2⟩) = true ∧
    ruleStuffC0 = [0xC4, 0xC1] ∧ ruleStuffC2 = [0xC4, 0xC3] ∧ ruleStuffC4 = [0xC4, 0xC4] := by decide

/-- The table of R64 read back, a symbol a step. -/
theorem test_unstuff_symbols :
    (unstuffSymbols 0xD5).all (fun x => shows x.1 (beginUnstuff [1, 2, 3] fresh) fun t =>
      t.walk == .unstuffing ⟨[1, 2, 3], x.2.2, [x.2.1]⟩) = true ∧
    ruleUnstuffEscC1 = .emit [0xC0] 2 ∧ ruleUnstuffEscC3 = .emit [0xC2] 2 ∧ ruleUnstuffEscC4 = .emit [0xC4] 2 := by decide

/-- V31. -/
theorem test_unstuff_bad_symbols :
    (badEscapes 0xD5).all (fun x =>
      aborts x.1 (beginUnstuff [0xC4, x.2] fresh) .invalidEscapeSequence (.escape 0 x.2) none) = true ∧
    aborts .unstuffDangling (beginUnstuff [0xC4] fresh) .danglingEscapeByte (.offset 0) none = true := by decide

/-! ### Event entries -/

/-- V53 and V54. -/
theorem test_entryType0 :
    shows .entryType0 (inEntries [0, 1, 2, 3, 4, 20] 0) (fun t =>
      t.walk == .entries [0, 1, 2, 3, 4, 20] 5 [⟨0, .value, [1, 2, 3, 4]⟩]) = true ∧
    shows .entryType0 (inEntries [0, 1, 2] 0) (fun t =>
      t.res.errq == [⟨.payloadParse, .eventTypeLenMismatch, .typeLen 0 4 2⟩] && t.status == okStatus) = true := by decide

/-- V53 and V54. -/
theorem test_entryType20 :
    shows .entryType20 (inEntries [20, 5] 0) (fun t => t.walk == .entries [20, 5] 2 [⟨20, .value, [5]⟩]) = true ∧
    shows .entryType20 (inEntries [20] 0) (fun t =>
      t.res.recq == [.archive 0 [⟨0, 0, 1, [⟨20, .lenMismatch, []⟩]⟩]] && t.status == okStatus) = true := by decide

/-- V55: every other id, for an EVT_LEN without it. -/
theorem test_entryTypeOther :
    ([
      (ruleEntryTypeOther01_01 twoTypes, 0x01), (ruleEntryTypeOther02_03 twoTypes 0x03, 0x03),
      (ruleEntryTypeOther04_07 twoTypes 0x07, 0x07), (ruleEntryTypeOther08_0F twoTypes 0x0F, 0x0F),
      (ruleEntryTypeOther10_13 twoTypes 0x13, 0x13), (ruleEntryTypeOther15_15 twoTypes, 0x15),
      (ruleEntryTypeOther16_17 twoTypes 0x17, 0x17), (ruleEntryTypeOther18_1F twoTypes 0x1F, 0x1F),
      (ruleEntryTypeOther20_3F twoTypes 0x3F, 0x3F), (ruleEntryTypeOther40_7F twoTypes 0x7F, 0x7F),
      (ruleEntryTypeOther80_FF twoTypes 0xFF, 0xFF)] :
      List ((List Byte → EntryCtx → EntryCtx) × Byte)).all (fun x =>
        x.1 [x.2, 1, 2] {} == ⟨1, [⟨x.2, .unknown, [1, 2]⟩], [⟨.unknownTypeId, some x.2⟩],
          [⟨.payloadParse, .unknownTypeId, .typeId x.2 0⟩], true⟩) = true := by decide

/-- R202, for an EVT_LEN that gives the id one byte. -/
theorem test_entryTypeOther_known :
    ruleEntryTypeOther80_FF ⟨.readOffset, fun _ => some .one⟩ 0xEE [0xEE, 1, 2] {} =
      ⟨2, [⟨0xEE, .value, [1]⟩], [], [], false⟩ := by decide

/-! ### The step, and the first instruction after reset -/

/-- R60. -/
theorem test_step_runs_the_command :
    (match step (writeCmd 0x01 (loaded [0x31])) with | .next t => t.res.crcOut == 0xC782 | _ => false) = true := by decide

/-- R60, R22: BUSY is set and DONE cleared by the write of CMD, not by the step after it. -/
theorem test_cmd_write_starts :
    (match hostCmd 0x01 { loaded [0x31] with status := okStatus, res := { crcOut := 5 } } with
      | .next t => t.status == { busy := true } && t.res == {} && t.cmd == 0x01 | _ => false) = true ∧
    (match hostCmd 0x01 (writeCmd 0x01 fresh) with | .refused .hostWhileBusy => true | _ => false) = true := by decide

/-- R277, and log 18 for a load that is too long. -/
theorem test_host_load :
    (match hostLoad [1, 2] fresh with | .next t => t.ilen == 2 && t.ibuf == [(0, 1), (1, 2)] | _ => false) = true ∧
    (match hostLoad [1, 2] (beginStuff [] fresh) with | .refused .hostWhileBusy => true | _ => false) = true := by decide

/-- R60, log 9. -/
theorem test_step_waits :
    step fresh = .next fresh := rfl

/-- log 10. -/
theorem test_fetch_word :
    (match step (State.reset.withFetchWord 8 0x9A) with | .next t => t.status == cmdErrStatus | _ => false) = true ∧
    (match step (State.reset.withFetchWord 16 0xC4C3) with
      | .next t => t.walk == .unstuffing ⟨[0xC4, 0xC3], 2, [0xC2]⟩ | _ => false) = true := by decide

/-- R24. -/
theorem test_device_id_string :
    decString 0 = [0x30] ∧ decString 10 = [0x31, 0x30] ∧ (decString 0xFFFFFFFFFFFFFFFF).length = 20 := by decide

/-! ### The hypotheses of the statements can be met -/

/-- With the input loaded and no command running the state is ready. -/
theorem ready_one : Ready (loaded [0x31]) [0x31] := ⟨rfl, rfl⟩

/-- And with its command pending. -/
theorem ready_pending : Ready (writeCmd 0x01 (loaded [0x31])) [0x31] := ⟨rfl, rfl⟩

/-- The empty input. -/
theorem ready_none : Ready (loaded []) [] := ⟨rfl, rfl⟩

/-- A pending command keeps the invariant. -/
theorem inv_pending : Inv (writeCmd 0x01 (loaded [0x31])) where
  ibuf := by decide
  busy := by decide
  busyAlone := by decide
  pending := by decide
  ends := by decide
  integrity := by decide
  olen := by decide
  errIdle := by decide
  errSet := by decide
  fatalClears := by decide
  devid := by decide
  anomalies := by decide
  errors := by decide
  records := by decide
  walk := by decide

/-- A walk in progress keeps the invariant. -/
theorem inv_walking : Inv (beginParse [0x04, 0x07] (loaded [0x04, 0x07])) where
  ibuf := by decide
  busy := by decide
  busyAlone := by decide
  pending := by decide
  ends := by decide
  integrity := by decide
  olen := by decide
  errIdle := by decide
  errSet := by decide
  fatalClears := by decide
  devid := by decide
  anomalies := by decide
  errors := by decide
  records := by decide
  walk := by decide

theorem witness_DecodeReadsBackEncode :
    ((Instr.illegalCmd80_FF 0xFF).wf = true ∧ (Instr.illegalCmd80_FF 0xFF).fits [] = true) ∧
    (Instr.pad.wf = true ∧ Instr.pad.fits [0, 0] = true) ∧
    (Instr.unknown00_00.wf = true ∧ Instr.unknown00_00.fits [0, 5] = true) ∧
    (Instr.unstuffDangling.wf = true ∧ Instr.unstuffDangling.fits [] = true) := by decide

theorem witness_EncodeWritesBackDecode : ([0x00] : List Byte) ≠ [] := by decide

theorem witness_StepRunsDecodedInstruction :
    (let s := writeCmd 0x06 fresh;
      s.walk = .idle ∧ s.cmdPending = true ∧ reads .cmd [s.cmd] .decode = true) ∧
    ((beginStuff [0xC0] fresh).walk = .stuffing ⟨[0xC0], 0, []⟩ ∧ reads .stuffIn [0xC0] .stuffC0 = true) ∧
    ((beginUnstuff [0xC4, 0xC1] fresh).walk = .unstuffing ⟨[0xC4, 0xC1], 0, []⟩ ∧
      reads .unstuffIn [0xC4, 0xC1] .unstuffEscC1 = true) ∧
    ((inRecords [0x04, 0x07] 0).walk = .records [0x04, 0x07] ∧ reads .record [0x04, 0x07] .archiveAck = true) ∧
    ((inEntries [0x14, 5] 0).walk = .entries [0x14, 5] 0 [] ∧ reads .entry [0x14, 5] .entryType20 = true) := by
  decide

theorem witness_StepAtTheEndOfTheInput :
    (fresh.walk = .idle ∧ fresh.cmdPending = false) ∧
    ((beginStuff [] fresh).walk = .stuffing ⟨[], 0, []⟩ ∧ (step (beginStuff [] fresh) matches .next _) = true) ∧
    ((beginUnstuff [] fresh).walk = .unstuffing ⟨[], 0, []⟩ ∧ (step (beginUnstuff [] fresh) matches .next _) = true) ∧
    ((inRecords [4, 7] 2).walk = .records [4, 7] ∧ (step (inRecords [4, 7] 2) matches .next _) = true) ∧
    ((inEntries [20, 5] 2).walk = .entries [20, 5] 2 [] ∧ (step (inEntries [20, 5] 2) matches .next _) = true) ∧
    ((inEntries [] 0).walk ≠ .idle ∧ (fetchBytes (inEntries [] 0)).2 = []) := by decide

theorem witness_StepKeepsTheInvariant :
    (∃ t, Inv (writeCmd 0x01 (loaded [0x31])) ∧ step (writeCmd 0x01 (loaded [0x31])) = .next t) ∧
    (∃ t, Inv (beginParse [0x04, 0x07] (loaded [0x04, 0x07])) ∧
      step (beginParse [0x04, 0x07] (loaded [0x04, 0x07])) = .next t) :=
  ⟨⟨_, inv_pending, rfl⟩, ⟨_, inv_walking, rfl⟩⟩

theorem witness_HostWritesKeepTheInvariant :
    ∃ t, Inv (beginParse [0x04, 0x07] (loaded [0x04, 0x07])) ∧
      hostAct .reset (beginParse [0x04, 0x07] (loaded [0x04, 0x07])) = .next t := ⟨_, inv_walking, rfl⟩

theorem witness_HostWriteIsReadBack :
    hostTurn fresh = true ∧ (65534 : Nat) < 65535 ∧ (65535 : Nat) ≤ 65535 ∧ (65533 : Nat) ≠ 65534 ∧
    (14 : Fin 16) ≠ 15 ∧ (zeros 65535).length ≤ 65535 ∧ 65535 < (zeros 65536).length ∧
    (hostTurn (writeCmd 0x01 fresh) = false ∧ HostWrite.cmd 0x01 ≠ .reset) :=
  ⟨by decide, by decide, by decide, by decide, by decide, List.length_replicate.le, lt_of_lt_of_eq (by decide) List.length_replicate.symm,
    by decide, by decide⟩

theorem witness_NoInstructionWritesTheConfiguration : ∃ t, exec .crc16 (loaded [0x31]) = .next t := ⟨_, rfl⟩

theorem witness_CommandsForgetEarlierCommands :
    ∃ t, Instr.isCommand .crc16 = true ∧
      SameOperands (loaded [0x31]) { loaded [0x31] with res := { padLen := 3 }, off := 9, free := 4 } ∧
      mayStart { loaded [0x31] with res := { padLen := 3 }, off := 9, free := 4 } = true ∧
      exec .crc16 (loaded [0x31]) = .next t ∧ Instr.crc16 ≠ .parse ∧ Instr.crc16 ≠ .decode :=
  ⟨_, rfl, ⟨rfl, rfl, rfl, rfl, rfl, rfl, rfl, rfl⟩, rfl, rfl, by decide⟩

theorem witness_InstructionsOutOfTurnAreRefused :
    (Instr.isCommand .stuff = true ∧ (beginStuff [] fresh).status.busy = true ∧ (beginStuff [] fresh).cmdPending = false) ∧
    (Instr.isCommand .pad = false ∧ fresh.walk = .idle) ∧
    (Instr.isCommand .pad = false ∧ Instr.space .pad ≠ (fetchBytes (beginStuff [0xC0] fresh)).1) := by decide

theorem witness_UnwrittenInputStopsCommands :
    let s := { fresh with ibuf := [(0, 1)], ilen := 255 }
    mayStart s = true ∧ mayStart (writeCmd 0x01 s) = true ∧ 1 < s.ilen.toNat ∧ memRead s.ibuf 1 = none ∧ (∀ b, b < 1 → memRead s.ibuf b ≠ none) ∧
      s.ilen.toNat ≤ 255 := by decide

theorem witness_IllegalCommandsSetCmdErr :
    ((0 : Byte) = 0 ∧ 0x0C ≤ (0x0C : Byte).toNat ∧ 0x0C ≤ (0xFF : Byte).toNat) ∧
    Instr.illegalCmd00_00 ∈ illegalCommands 0 ∧ mayStart fresh = true ∧ mayStart (writeCmd 0x00 fresh) = true ∧
    mayStart (beginStuff [] fresh) = false ∧ (beginStuff [] fresh).status.busy = true := by decide

theorem witness_Crc16Completes :
    Ready (loaded [0x31]) [0x31] ∧ Ready (writeCmd 0x01 (loaded [0x31])) [0x31] ∧ Ready (loaded []) [] :=
  ⟨ready_one, ready_pending, ready_none⟩

theorem witness_OneWrongByteChangesTheChecksum : (0 : Byte) ≠ 0x80 := by decide

theorem witness_EcbTakesEachBlockAlone :
    (∃ f : Nat → Cipher → Cipher, f = encryptBlock) ∧ (∃ f : Nat → Cipher → Cipher, f = decryptBlock) ∧
    (zeros 16).length % 8 = 0 ∧ 0 < (zeros 16).length / 8 ∧ 1 < (zeros 16).length / 8 :=
  ⟨⟨_, rfl⟩, ⟨_, rfl⟩, by decide, by decide, by decide⟩

theorem witness_DecryptUndoesEncrypt : (zeros 8).length % 8 = 0 := by decide

theorem witness_CipherCommandsComplete :
    Ready (loaded (zeros 8)) (zeros 8) ∧ 0 < (loaded (zeros 8)).rounds.toInt ∧
    0 < ({ loaded (zeros 8) with rounds := 1 } : State).rounds.toInt ∧
    (zeros 8).length ≠ 0 ∧ (zeros 8).length % 8 = 0 := ⟨⟨rfl, rfl⟩, by decide, by decide, by decide, by decide⟩

theorem witness_CipherCommandsAreTurnedAway :
    Ready { loaded (zeros 7) with rounds := 0 } (zeros 7) ∧
    ({ loaded (zeros 7) with rounds := 0 } : State).rounds.toInt ≤ 0 ∧
    ({ loaded (zeros 7) with rounds := 0x80000000 } : State).rounds.toInt ≤ 0 ∧
    Ready (loaded (zeros 7)) (zeros 7) ∧ 0 < (loaded (zeros 7)).rounds.toInt ∧ (zeros 7).length % 8 ≠ 0 ∧
    Ready (loaded []) [] := ⟨⟨rfl, rfl⟩, by decide, by decide, ⟨rfl, rfl⟩, by decide, by decide, ready_none⟩

theorem witness_UnstuffReadsFromTheLeft :
    unstuff [0x11, 0xC4, 0xC1] = .ok [0x11, 0xC0] ∧ (0xC3 : Byte) ≠ 0xC4 ∧ (0xC5 : Byte) ≠ 0xC4 ∧
    ((0xC0 : Byte) ≠ 0xC1 ∧ (0xC0 : Byte) ≠ 0xC3 ∧ (0xC0 : Byte) ≠ 0xC4) ∧
    ((0xC5 : Byte) ≠ 0xC1 ∧ (0xC5 : Byte) ≠ 0xC3 ∧ (0xC5 : Byte) ≠ 0xC4) := ⟨rfl, by decide⟩

theorem witness_StuffCompletes :
    Ready (loaded [0xC0]) [0xC0] ∧ ∀ b ∈ ([0xC0, 0xC2, 0xC4] : List Byte), b = 0xC0 ∨ b = 0xC2 ∨ b = 0xC4 :=
  ⟨⟨rfl, rfl⟩, by decide⟩

theorem witness_UnstuffEnds :
    (Ready (loaded [0xC4, 0xC1]) [0xC4, 0xC1] ∧ unstuff [0xC4, 0xC1] = .ok [0xC0]) ∧
    (Ready (loaded [0xC4]) [0xC4] ∧ unstuff [0xC4] = .error ⟨.danglingEscapeByte, .offset 0⟩) :=
  ⟨⟨⟨rfl, rfl⟩, rfl⟩, ⟨⟨rfl, rfl⟩, rfl⟩⟩

theorem witness_StuffSymbolsComplete :
    (.stuffC0, [0xC4, 0xC1]) ∈ stuffSymbols 0 ∧ (beginStuff [0xC0] fresh).walk = .stuffing ⟨[0xC0], 0, []⟩ := by decide

theorem witness_UnstuffSymbolsComplete :
    (.unstuffEscC1, 0xC0, 2) ∈ unstuffSymbols 0 ∧
    (beginUnstuff [0xC4, 0xC1] fresh).walk = .unstuffing ⟨[0xC4, 0xC1], 0, []⟩ := by decide

theorem witness_BadEscapesAbort :
    (.unstuffBadEscC5_C5, 0xC5) ∈ badEscapes 0 ∧
    (let s := beginUnstuff [0xC4, 0xC5] fresh;
      s.walk = .unstuffing ⟨[0xC4, 0xC5], 0, []⟩ ∧ s.status = Status.started ∧ s.res = {} ∧ s.cmdPending = false) := by decide

theorem witness_EventTableHasItsConstraints : Config.evtLen 0 = some .four ∧ Config.evtLen 20 = some .one := by decide

theorem witness_EntriesAreReadInOrder :
    twoTypes.evtLen 0 = some .four ∧ twoTypes.evtLen 20 = some .one ∧
    (∀ x ∈ [((0 : Byte), ([1, 2, 3, 4] : List Byte)), (20, [5])],
      ∃ l, twoTypes.evtLen x.1 = some l ∧ x.2.length = l.toNat) ∧
    twoTypes.evtLen 0xEE = none ∧
    (twoTypes.evtLen 0 = some .four ∧ ([1, 2, 3] : List Byte).length < Config.EvtLen.four.toNat) ∧
    (twoTypes.evtLen 20 = some .one ∧ ([] : List Byte).length < Config.EvtLen.one.toNat) := by
  refine ⟨rfl, rfl, ?_, by decide, by decide, by decide⟩
  intro x hx
  simp only [List.mem_cons, List.not_mem_nil, or_false] at hx
  rcases hx with rfl | rfl
  · exact ⟨.four, by decide⟩
  · exact ⟨.one, by decide⟩

theorem witness_EvparseEnds :
    mayStart { fresh with ilen := 256 } = true ∧ (Ready (loaded [20, 5]) [20, 5] ∧ (loaded [20, 5]).ilen.toNat ≤ 255) ∧
    (({ fresh with ilen := 255 } : State).ilen.toNat ≤ 255 ∧
      255 < ({ fresh with ilen := 256 } : State).ilen.toNat) := ⟨rfl, ⟨⟨rfl, rfl⟩, by decide⟩, by decide⟩

theorem witness_EntrySymbolsComplete :
    (.entryType0, 0x00) ∈ entryTypes 0xFF ∧
    (inEntries [20, 5, 0, 1, 2, 3, 4] 2).walk = .entries ([20, 5] ++ 0 :: [1, 2, 3, 4]) [20, 5].length [] ∧
    Config.evtLen 0 = some .four ∧ Config.EvtLen.four.toNat ≤ ([1, 2, 3, 4] : List Byte).length ∧
    ([1, 2, 3] : List Byte).length < Config.EvtLen.four.toNat := by decide

theorem witness_ParseCompletes : Ready (loaded [0x04, 0x07]) [0x04, 0x07] := ⟨rfl, rfl⟩

theorem witness_FixedRecordsComplete :
    (∀ n : Byte, n = 0 ∨ n = 2 ∨ n = 255 → (zeros n.toNat).length = n.toNat) ∧
    (let s := inRecords ([4, 7] ++ [0x01, 3, 2] ++ zeros 2 ++ [9]) 2;
      s.off = ([4, 7] : List Byte).length ∧ s.walk = .records ([4, 7] ++ [0x01, 3, 2] ++ zeros 2 ++ [9])) ∧
    (inRecords ([4, 7] ++ [0x06, 3, 2] ++ zeros 2 ++ [9]) 2).walk = .records ([4, 7] ++ [0x06, 3, 2] ++ zeros 2 ++ [9]) ∧
    (inRecords ([4, 7] ++ [0x02, 3, 2] ++ [9]) 2).walk = .records ([4, 7] ++ [0x02, 3, 2] ++ [9]) ∧
    (inRecords ([4, 7] ++ [0x04, 3] ++ [9]) 2).walk = .records ([4, 7] ++ [0x04, 3] ++ [9]) ∧
    (inRecords ([4, 7] ++ [0x07, 3, 1, 2] ++ zeros 2 ++ [9]) 2).walk =
      .records ([4, 7] ++ [0x07, 3, 1, 2] ++ zeros 2 ++ [9]) :=
  ⟨fun _ _ => List.length_replicate, by decide, rfl, rfl, rfl, rfl⟩

theorem witness_TelemetryCompletes :
    let xs : List (Byte × List Byte) := [(1, [0xAA]), (2, [])]
    let s := inRecords ([4, 7] ++ [0x09, BitVec.ofNat 8 xs.length] ++ xs.flatMap itemBytes ++ [9]) 2
    s.off = ([4, 7] : List Byte).length ∧ xs.length ≤ 255 ∧ (∀ x ∈ xs, x.2.length ≤ 255) ∧
      s.walk = .records ([4, 7] ++ [0x09, BitVec.ofNat 8 xs.length] ++ xs.flatMap itemBytes ++ [9]) := by decide

theorem witness_ArchiveCompletes :
    let vs : List RawEvent := [⟨0, 0, [0, 1, 2, 3, 4]⟩, ⟨5, 0x44332211, []⟩]
    let s := inRecords ([4, 7] ++ [0x03, 0x13] ++ vs.flatMap eventBytes ++ zeros 3) 2
    s.off = ([4, 7] : List Byte).length ∧ (∀ v ∈ vs, v.data.length ≤ 255) ∧
      (∀ v, vs.getLast? = some v → allZero (eventBytes v) = false) ∧
      s.walk = .records ([4, 7] ++ [0x03, 0x13] ++ vs.flatMap eventBytes ++ zeros 3) := by
  refine ⟨by decide, by decide, ?_, rfl⟩
  intro v hv
  cases hv
  decide

theorem witness_RestTakingRecordsComplete :
    (inRecords ([4, 7] ++ [0x08] ++ [1, 0]) 2).off = ([4, 7] : List Byte).length ∧
    (inRecords ([4, 7] ++ [0x08] ++ [1, 0]) 2).walk = .records ([4, 7] ++ [0x08] ++ [1, 0]) ∧
    ((.rtu800Extended14, 0x0E) ∈ extendedIds ∧
      (inRecords ([4, 7] ++ [0x0E] ++ []) 2).walk = .records ([4, 7] ++ [0x0E] ++ [])) ∧
    ((.unknown80_FF 0xFF, 0xFF) ∈ unknownIds 0xFF ∧
      (inRecords ([4, 7] ++ [0xFF] ++ [1]) 2).walk = .records ([4, 7] ++ [0xFF] ++ [1])) := by decide

theorem witness_PaddingEndsTheWalk :
    0 < 1 ∧ (inRecords ([4, 7] ++ zeros 1) 2).walk = .records ([4, 7] ++ zeros 1) ∧
    (inRecords ([4, 7] ++ zeros 1) 2).off = ([4, 7] : List Byte).length := by decide

theorem witness_CutRecordsDegrade :
    ((.configCommand, 0x01) ∈ ([(.configCommand, 0x01), (.readCommand, 0x06)] : List (Instr × Byte))) ∧
    (let s := inRecords ([4, 7] ++ [0x01] ++ [] ++ []) 2;
      s.walk = .records ([4, 7] ++ [0x01] ++ [] ++ []) ∧ s.off = ([4, 7] : List Byte).length ∧
        ([] : List Byte).length < 1) ∧
    (let s := inRecords ([4, 7] ++ [0x07] ++ [1, 2, 3] ++ [9, 9]) 2;
      s.walk = .records ([4, 7] ++ [0x07] ++ [1, 2, 3] ++ [9, 9]) ∧ s.off = ([4, 7] : List Byte).length ∧
        ([9, 9] : List Byte).length < (3 : Byte).toNat) := by decide

theorem witness_CutTelemetryDropsItsItems :
    let xs : List (Byte × List Byte) := [(1, [0xAA])]
    let s := inRecords ([4, 7] ++ [0x09] ++ (2 :: xs.flatMap itemBytes ++ [5, 2]) ++ [9]) 2
    xs.length < (2 : Byte).toNat ∧ (∀ x ∈ xs, x.2.length ≤ 255) ∧
      s.walk = .records ([4, 7] ++ [0x09] ++ (2 :: xs.flatMap itemBytes ++ [5, 2]) ++ [9]) ∧
      s.off = ([4, 7] : List Byte).length ∧ ([9] : List Byte).length < (2 : Byte).toNat ∧
      ([] : List Byte).length < 1 := by decide

theorem witness_CutArchiveKeepsItsAnomalies :
    let vs : List RawEvent := [⟨0, 0, [20]⟩]
    let read := [4, 7] ++ [0x03, 0x13] ++ vs.flatMap eventBytes
    (∀ v ∈ vs, v.data.length ≤ 255) ∧
    ((inRecords ([4, 7] ++ [0x03] ++ []) 2).off = ([4, 7] : List Byte).length ∧
      (inRecords ([4, 7] ++ [0x03] ++ []) 2).walk = .records ([4, 7] ++ [0x03] ++ [])) ∧
    (([0, 0, 1] : List Byte).length < 4 ∧ ([] : List Byte).length < 4 ∧ allZero (0 :: [0, 0, 1]) = false ∧
      (inRecords (read ++ [0] ++ [0, 0, 1]) 2).walk = .records (read ++ [0] ++ [0, 0, 1])) ∧
    (allZero (0 :: le32 0x01000000) = false ∧
      (inRecords (read ++ [0] ++ le32 0x01000000 ++ []) 2).walk = .records (read ++ [0] ++ le32 0x01000000 ++ [])) ∧
    (([8, 8] : List Byte).length < (3 : Byte).toNat ∧
      (inRecords (read ++ [1] ++ le32 0 ++ [3] ++ [8, 8]) 2).walk = .records (read ++ [1] ++ le32 0 ++ [3] ++ [8, 8])) := by
  decide

theorem witness_RecordsMoveForward :
    ((inRecords [4, 7, 0] 0).walk = .records [4, 7, 0] ∧ reads .record [4, 7, 0] .archiveAck = true) ∧
    ((inRecords [4, 7, 0] 2).walk = .records [4, 7, 0] ∧
      reads .record (([4, 7, 0] : List Byte).drop (inRecords [4, 7, 0] 2).off) .pad = true) := by decide

theorem witness_WhatEndsTheWalkComesLast :
    ((parse twoTypes [4, 7, 8, 1]).recq = [.archiveAck 7] ++ .auth [1] :: [] ∧ runsToEnd (.auth [1]) = true) ∧
    (parse twoTypes [4]).errq = [] ++ ⟨.payloadParse, .recordParseFailed, .parse 4 1 1 0⟩ :: [] := by decide

theorem witness_PrepCompletes :
    Ready (loaded (zeros 6)) (zeros 6) ∧ (zeros 6).length % 8 = 6 ∧ ((zeros 6).length + 8 + 2) % 8 = 0 :=
  ⟨⟨rfl, rfl⟩, by decide, by decide⟩

theorem witness_FrameCompletes : Ready (loaded []) [] := ready_none

theorem witness_BuildEnds :
    (Ready (loaded [4, 7]) [4, 7] ∧ 0 < (loaded [4, 7]).rounds.toInt) ∧
    (Ready { loaded [4, 7] with rounds := 0 } [4, 7] ∧
      ({ loaded [4, 7] with rounds := 0 } : State).rounds.toInt ≤ 0) :=
  ⟨⟨⟨rfl, rfl⟩, by decide⟩, ⟨⟨rfl, rfl⟩, by decide⟩⟩

theorem witness_DeviceIdStringIsItsDecimalNumeral : 0x37 ∈ decString 7 ∧ (decString 0).head? = some 48 := by decide

/-- The datagram of V42. -/
def good : List Byte :=
  [0xC0, 0xCB, 0x9B, 0x55, 0x88, 0x88, 0x11, 0x03, 0x00, 0x04, 0xA7, 0x14, 0x73, 0x43, 0x2A, 0x2C, 0x59, 0xC2]

/-- Its body. -/
def goodBody : List Byte := slice good 1 17

/-- Its plaintext. -/
def goodPlain : List Byte := [0x04, 0x07, 0, 0, 0, 0, 0x65, 0x6F]

theorem witness_DecodeCompletes :
    Ready (loaded good) good ∧ 2 ≤ good.length ∧ good.head? = some 0xC0 ∧ good.getLast? = some 0xC2 ∧
    unstuff (slice good 1 (good.length - 1)) = .ok goodBody ∧ 16 ≤ goodBody.length ∧ goodBody.length % 8 = 0 ∧
    keyAnswer (loaded good) (decString (bodyId goodBody)) = some keyA.toList ∧ keyA.toList.length = 16 ∧
    0 < (loaded good).rounds.toInt ∧
    goodPlain = (ecb (decryptBlock (posRounds (loaded good))) (goodBody.drop 8) keyA.toList fresh.work.cipher).1 ∧
    LE16 (goodPlain.drop (goodPlain.length - 2)) = crc16 (goodPlain.take (goodPlain.length - 2)) 0xFFFF :=
  ⟨⟨rfl, rfl⟩, by decide, by decide, by decide, rfl, by decide, by decide, by decide, by decide, by decide, by decide,
    by decide⟩

theorem witness_DecodeFailsBeforeTheDeviceId :
    (Ready (loaded [0xC0]) [0xC0] ∧ ([0xC0] : List Byte).length < 2) ∧
    (Ready (loaded [0xC0, 0x03]) [0xC0, 0x03] ∧ 2 ≤ ([0xC0, 0x03] : List Byte).length ∧
      ([0xC0, 0x03] : List Byte).head? = some 0xC0 ∧ ([0xC0, 0x03] : List Byte).getLast? = some 0x03 ∧
      (0x03 : Byte) ≠ 0xC2) ∧
    (Ready (loaded [0xC0, 0xC4, 0xC2]) [0xC0, 0xC4, 0xC2] ∧
      unstuff (slice [0xC0, 0xC4, 0xC2] 1 2) = .error ⟨.danglingEscapeByte, .offset 0⟩) ∧
    (Ready (loaded ([0xC0] ++ zeros 15 ++ [0xC2])) ([0xC0] ++ zeros 15 ++ [0xC2]) ∧
      unstuff (slice ([0xC0] ++ zeros 15 ++ [0xC2]) 1 16) = .ok (zeros 15) ∧ (zeros 15).length < 16) :=
  ⟨⟨⟨rfl, rfl⟩, by decide⟩, ⟨⟨rfl, rfl⟩, by decide⟩, ⟨⟨rfl, rfl⟩, rfl⟩, ⟨⟨rfl, rfl⟩, rfl, by decide⟩⟩

/-- A datagram with sound markers around a body without reserved bytes. -/
def framed (body : List Byte) : List Byte := [0xC0] ++ body ++ [0xC2]

theorem witness_DecodeFailsAfterTheDeviceId :
    (Ready (loaded (framed (zeros 17))) (framed (zeros 17)) ∧
      unstuff (slice (framed (zeros 17)) 1 18) = .ok (zeros 17) ∧ 16 ≤ (zeros 17).length ∧ (zeros 17).length % 8 ≠ 0) ∧
    (unstuff (slice (framed (zeros 16)) 1 17) = .ok (zeros 16) ∧
      keyAnswer (loaded (framed (zeros 16))) (decString (bodyId (zeros 16))) = none) ∧
    (unstuff (slice (framed (7 :: zeros 15)) 1 17) = .ok (7 :: zeros 15) ∧
      keyAnswer (loaded (framed (7 :: zeros 15))) (decString (bodyId (7 :: zeros 15))) = some [1, 2, 3, 4, 5]) ∧
    (Ready { loaded good with rounds := 0 } good ∧ ({ loaded good with rounds := 0 } : State).rounds.toInt ≤ 0) ∧
    (let bad := (ecb (decryptBlock 1) (goodBody.drop 8) keyA.toList fresh.work.cipher).1;
      Ready { loaded good with rounds := 1 } good ∧
      LE16 (bad.drop (bad.length - 2)) ≠ crc16 (bad.take (bad.length - 2)) 0xFFFF) :=
  ⟨⟨⟨rfl, rfl⟩, rfl, by decide, by decide⟩, ⟨rfl, by decide⟩, ⟨rfl, by decide⟩, ⟨⟨rfl, rfl⟩, by decide⟩,
    ⟨⟨rfl, rfl⟩, by decide⟩⟩

theorem witness_TheKeyPortIsAskedAtMostOnce :
    ∃ t, Instr.isCommand .decode = true ∧ exec .decode (loaded good) = .next t := ⟨_, rfl, rfl⟩

/-- The key table answers with the key BUILD uses. -/
theorem witness_DecodeUndoesBuild :
    ∃ t, Ready (loaded [4, 7]) [4, 7] ∧ 0 < (loaded [4, 7]).rounds.toInt ∧ exec .build (loaded [4, 7]) = .next t ∧
      Ready (loaded good) t.res.obuf ∧ (loaded good).rounds = (loaded [4, 7]).rounds ∧
      keyAnswer (loaded good) (decString (loaded [4, 7]).devidIn) = some (loaded [4, 7]).key.toList :=
  ⟨_, ⟨rfl, rfl⟩, by decide, rfl, ⟨rfl, rfl⟩, rfl, by decide⟩

theorem witness_ScanStepsReachTheCommand : Ready (loaded [0xC4, 0xC5]) [0xC4, 0xC5] := ⟨rfl, rfl⟩

theorem witness_RecordStepsReachTheCommand : Ready (loaded [0x04, 0x07]) [0x04, 0x07] := ⟨rfl, rfl⟩

theorem witness_EntryStepsReachTheCommand :
    Ready (loaded [20, 5]) [20, 5] ∧ (loaded [20, 5]).ilen.toNat ≤ 255 := ⟨⟨rfl, rfl⟩, by decide⟩

theorem witness_EveryWalkEnds :
    Inv (beginParse [0x04, 0x07] (loaded [0x04, 0x07])) ∧
    (beginParse [0x04, 0x07] (loaded [0x04, 0x07])).status.busy = true ∧
    (beginParse [0x04, 0x07] (loaded [0x04, 0x07])).cmdPending = false ∧
    (Inv (writeCmd 0x01 (loaded [0x31])) ∧ (writeCmd 0x01 (loaded [0x31])).status.busy = true ∧
      ∃ bs, readInput (writeCmd 0x01 (loaded [0x31])) = .ok bs) :=
  ⟨inv_walking, rfl, rfl, inv_pending, rfl, _, rfl⟩

end Sys2Proof.Tests
end

section
/-! SUPPORT. What an instruction's meaning is made of: the state a command ends in as a function of its operand, and
the shared operation of each kind of symbol (log 2). -/

namespace Sys2Proof.Machine

/-! ### Commands -/

/-- The end of a command that leaves `out s bs` in OBUF. -/
def obufEnd (out : State → List Byte → List Byte) (bs : List Byte) (s : State) : State :=
  finishOk (setObuf (out s bs) s)

/-- The end of CRC16 (R92). -/
def crcEnd (data : List Byte) (s : State) : State :=
  finishOk (setCrcOut (crc16 data s.crcInit) (runCrc data s.crcInit s))

/-- The end of XTEA_ENC and XTEA_DEC (R107, R108). -/
def cipherEnd (blockFn : Nat → Cipher → Cipher) (bs : List Byte) (s : State) : State :=
  match cipherRun blockFn bs s.key.toList s with
  | .error c => raiseFatal ⟨.cipherFailed, .cause c⟩ s
  | .ok (y, s) => finishOk (setObuf y s)

/-- The end of UNSTUFF (R123). -/
def unstuffEnd (bs : List Byte) (s : State) : State :=
  match unstuff bs with
  | .error e => raiseFatal e s
  | .ok out => finishOk (setObuf out s)

/-- The end of PARSE (R160). -/
def parseEnd (P : List Byte) (s : State) : State := finishOk (runParse P s)

@[simp] theorem runPrep_pt (payload : List Byte) (s : State) :
    (runPrep payload s).work.pt = preparePlaintext payload := rfl

@[simp] theorem runPrep_key (payload : List Byte) (s : State) : (runPrep payload s).key = s.key := rfl

@[simp] theorem runPrep_off (payload : List Byte) (s : State) : (runPrep payload s).off = s.off := rfl

/-- The end of PREP (R216). -/
def prepEnd (payload : List Byte) (s : State) : State :=
  finishOk (setObuf (preparePlaintext payload) (runPrep payload s))

/-- The end of BUILD (R220). -/
def buildEnd (payload : List Byte) (s : State) : State :=
  match cipherRun encryptBlock (preparePlaintext payload) s.key.toList (runPrep payload s) with
  | .error c => raiseFatal ⟨.cipherFailed, .cause c⟩ (runPrep payload s)
  | .ok (ct, s) => finishOk (setObuf (buildFrame s.devidIn ct) (setCt ct s))

/-- The end of EVPARSE on an input it takes (R206). -/
def evparseEnd (d : List Byte) (s : State) : State :=
  finishEvparse d.length (parseEntries Config.params d [] []) s

/-- The end of a command that always reads its whole input (R41); `none` for every other instruction. -/
def inputEnd : Instr → Option (List Byte → State → State)
  | .crc16 => some crcEnd
  | .xteaEnc => some (cipherEnd encryptBlock)
  | .xteaDec => some (cipherEnd decryptBlock)
  | .stuff => some (obufEnd fun _ => stuff)
  | .unstuff => some unstuffEnd
  | .decode => some frameStage
  | .parse => some parseEnd
  | .prep => some prepEnd
  | .frame => some (obufEnd fun s => buildFrame s.devidIn)
  | .build => some buildEnd
  | _ => none

/-- The command that reads its whole input and ends in `f`. -/
def runInput (f : List Byte → State → State) (s : State) : Out :=
  runCommand (withInput fun bs s => .next (f bs s)) s

/-- A body that always answers the next state `f` makes its command end in `f`. -/
theorem runCommand_withInput_eq {body : List Byte → State → Out} {f : List Byte → State → State}
    (h : ∀ bs s, body bs s = .next (f bs s)) (s : State) : runCommand (withInput body) s = runInput f s := by
  rw [show body = fun bs s => .next (f bs s) from funext₂ h]; rfl

/-- What a command that reads its whole input does. -/
theorem exec_inputEnd {i : Instr} {f : List Byte → State → State} (h : inputEnd i = some f) (s : State) :
    exec i s = runInput f s := by
  cases i <;> cases h
  case crc16 | stuff | decode | parse | prep | frame => rfl
  case xteaEnc | xteaDec =>
    refine runCommand_withInput_eq (fun bs s => ?_) s
    unfold cipherEnd
    generalize cipherRun _ bs s.key.toList s = r
    cases r <;> rfl
  case unstuff =>
    refine runCommand_withInput_eq (fun bs s => ?_) s
    unfold unstuffEnd
    generalize unstuff bs = r
    cases r <;> rfl
  case build =>
    refine runCommand_withInput_eq (fun bs s => ?_) s
    simp only [runPrep_pt, runPrep_key, buildEnd]
    generalize cipherRun _ (preparePlaintext bs) s.key.toList (runPrep bs s) = r
    cases r <;> rfl

theorem runInput_ok {f : List Byte → State → State} {s : State} {bs : List Byte} (hm : mayStart s = true)
    (hr : readInput s = .ok bs) : runInput f s = .next (f bs (startCommand s)) := by
  rw [runInput, runCommand_rest _ hm, withInput_ok _ (by simpa using hr)]

theorem runInput_unwritten {f : List Byte → State → State} {s : State} {a : Nat} (hm : mayStart s = true)
    (hr : readInput s = .error a) : runInput f s = .fault (.ibufUnwritten a) := by
  rw [runInput, runCommand_rest _ hm, withInput_unwritten _ (by simpa using hr)]

theorem runInput_next {f : List Byte → State → State} {s t : State} (h : runInput f s = .next t) :
    mayStart s = true ∧ ∃ bs, readInput s = .ok bs ∧ t = f bs (startCommand s) := by
  obtain ⟨hm, hb⟩ := runCommand_next h
  obtain ⟨bs, hr, ht⟩ := withInput_next hb
  cases ht
  exact ⟨hm, bs, hr, rfl⟩

/-- EVPARSE on an input of at most 255 bytes (R206). -/
theorem execEvparse_short {s : State} (h : s.ilen.toNat ≤ maxEventData) : execEvparse s = runInput evparseEnd s := by
  unfold execEvparse runInput runCommand
  split
  · simp only [startCommand_ilen, gt_iff_lt]
    rw [if_neg (by omega)]
    rfl
  · rfl

/-- EVPARSE on a longer input (R206, log 17). -/
theorem execEvparse_long {s : State} (h : maxEventData < s.ilen.toNat) : execEvparse s = illegalCommand s := by
  unfold execEvparse illegalCommand runCommand
  split
  · simp only [startCommand_ilen, gt_iff_lt]
    rw [if_pos h]
  · rfl

theorem illegalCommand_rest {s : State} (h : mayStart s = true) :
    illegalCommand s = .next (endCmdErr (startCommand s)) := by rw [illegalCommand, runCommand_rest _ h]

theorem illegalCommand_next {s t : State} (h : illegalCommand s = .next t) :
    mayStart s = true ∧ t = endCmdErr (startCommand s) := by
  obtain ⟨hm, ht⟩ := runCommand_next h
  cases ht
  exact ⟨hm, rfl⟩

/-- The three kinds of command: those that read their whole input, EVPARSE, and the illegal codes. -/
theorem command_kinds {i : Instr} (h : i.isCommand = true) :
    (∃ f, inputEnd i = some f) ∨ i = .evparse ∨ ∀ s, exec i s = illegalCommand s := by
  cases i
  case crc16 | xteaEnc | xteaDec | stuff | unstuff | decode | parse | prep | frame | build => exact .inl ⟨_, rfl⟩
  case evparse => exact .inr (.inl rfl)
  case illegalCmd00_00 | illegalCmd0C_0F | illegalCmd10_1F | illegalCmd20_3F | illegalCmd40_7F | illegalCmd80_FF =>
    exact .inr (.inr fun _ => rfl)
  all_goals exact absurd h (by simp [Instr.isCommand, Instr.space])

/-- Every command that answers a next state ran from its start, to its end on its input or to CMD_ERR. -/
theorem command_next {i : Instr} {s t : State} (hi : i.isCommand = true) (h : exec i s = .next t) :
    mayStart s = true ∧
    ((∃ f bs, inputEnd i = some f ∧ readInput s = .ok bs ∧ t = f bs (startCommand s)) ∨
     (∃ d, i = .evparse ∧ d.length ≤ maxEventData ∧ readInput s = .ok d ∧ t = evparseEnd d (startCommand s)) ∨
     t = endCmdErr (startCommand s)) := by
  rcases command_kinds hi with ⟨f, hf⟩ | rfl | hill
  · rw [exec_inputEnd hf] at h
    obtain ⟨hm, bs, hr, rfl⟩ := runInput_next h
    exact ⟨hm, .inl ⟨f, bs, hf, hr, rfl⟩⟩
  · change execEvparse s = .next t at h
    by_cases hl : s.ilen.toNat ≤ maxEventData
    · rw [execEvparse_short hl] at h
      obtain ⟨hm, d, hr, rfl⟩ := runInput_next h
      exact ⟨hm, .inr (.inl ⟨d, rfl, readInput_length hr ▸ hl, hr, rfl⟩)⟩
    · rw [execEvparse_long (by omega)] at h
      obtain ⟨hm, rfl⟩ := illegalCommand_next h
      exact ⟨hm, .inr (.inr rfl)⟩
  · rw [hill] at h
    obtain ⟨hm, rfl⟩ := illegalCommand_next h
    exact ⟨hm, .inr (.inr rfl)⟩

/-! ### Symbols -/

/-- A stuffing symbol appends what its rule tells (R120). -/
theorem exec_stuffSymbol {i : Instr} (h : i.space = .stuffIn) :
    ∃ out, stuffRule i = some out ∧ ∀ s, exec i s = stuffStep out s := by
  cases i <;> cases h <;> exact ⟨_, rfl, fun _ => rfl⟩

/-- An unstuffing symbol does what its rule tells (R122). -/
theorem exec_unstuffSymbol {i : Instr} (h : i.space = .unstuffIn) :
    ∃ sym, (∀ n, unstuffRule i n = some (sym n)) ∧ ∀ s, exec i s = unstuffStep sym s := by
  cases i <;> cases h <;> exact ⟨_, fun _ => rfl, fun _ => rfl⟩

/-- A record, or padding, moves the payload walk by its rule (R160). -/
theorem exec_record {i : Instr} (h : i.space = .record) :
    ∃ rule, recordRule Config.params i = some rule ∧ ∀ s, exec i s = recordStep rule s := by
  cases i <;> cases h <;> exact ⟨_, rfl, fun _ => rfl⟩

/-- An entry moves the entry walk by its rule (R202). -/
theorem exec_entry {i : Instr} (h : i.space = .entry) :
    ∃ rule, entryRule Config.params i = some rule ∧ ∀ s, exec i s = entryStep rule s := by
  cases i <;> cases h <;> exact ⟨_, rfl, fun _ => rfl⟩

end Sys2Proof.Machine
end

section
/-! SUPPORT. What no instruction writes (10_state.md R16, R17, R19, R27, R36): the fields of `Kept` as one value, which
every named operation leaves as it is. -/

namespace Sys2Proof.Machine

/-- What only the host writes: configuration, IBUF, ILEN, CMD, and its environment's resolver. -/
def settings (s : State) :=
  (s.rounds, s.crcInit, s.key, s.devidIn, s.ibuf, s.ilen, s.cmd, s.keyTable, s.keyDefault)

theorem kept_iff {s t : State} : Kept s t ↔ settings t = settings s := by
  simp only [settings, Prod.mk.injEq]
  exact ⟨fun h => ⟨h.rounds, h.crcInit, h.key, h.devidIn, h.ibuf, h.ilen, h.cmd, h.keyTable, h.keyDefault⟩,
    fun ⟨h₁, h₂, h₃, h₄, h₅, h₆, h₇, h₈, h₉⟩ => ⟨h₁, h₂, h₃, h₄, h₅, h₆, h₇, h₈, h₉⟩⟩

@[simp] theorem settings_startCommand (s : State) : settings (startCommand s) = settings s := rfl
@[simp] theorem settings_finishOk (s : State) : settings (finishOk s) = settings s := rfl
@[simp] theorem settings_raiseFatal (e : FatalError) (s : State) : settings (raiseFatal e s) = settings s := rfl
@[simp] theorem settings_endCmdErr (s : State) : settings (endCmdErr s) = settings s := rfl
@[simp] theorem settings_setStage (st : Stage) (s : State) : settings (setStage st s) = settings s := rfl
@[simp] theorem settings_setObuf (bs : List Byte) (s : State) : settings (setObuf bs s) = settings s := rfl
@[simp] theorem settings_setDevid (d : BitVec 64) (s : State) : settings (setDevid d s) = settings s := rfl
@[simp] theorem settings_setCrcOut (v : BitVec 16) (s : State) : settings (setCrcOut v s) = settings s := rfl
@[simp] theorem settings_runCrc (bs : List Byte) (v : BitVec 16) (s : State) :
    settings (runCrc bs v s) = settings s := rfl
@[simp] theorem settings_setCipher (c : Cipher) (s : State) : settings (setCipher c s) = settings s := rfl
@[simp] theorem settings_setBody (bs : List Byte) (s : State) : settings (setBody bs s) = settings s := rfl
@[simp] theorem settings_setCt (bs : List Byte) (s : State) : settings (setCt bs s) = settings s := rfl
@[simp] theorem settings_setPt (bs : List Byte) (s : State) : settings (setPt bs s) = settings s := rfl
@[simp] theorem settings_markPayload (s : State) : settings (markPayload s) = settings s := rfl
@[simp] theorem settings_requestKey (q : List Byte) (s : State) : settings (requestKey q s) = settings s := rfl
@[simp] theorem settings_setParse (c : ParseCtx) (s : State) : settings (setParse c s) = settings s := rfl
@[simp] theorem settings_setWalk (w : Walk) (s : State) : settings (setWalk w s) = settings s := rfl
@[simp] theorem settings_setAnomalies (w : List Warning) (e : List NfError) (s : State) :
    settings (setAnomalies w e s) = settings s := rfl
@[simp] theorem settings_setRecq (r : List Record) (s : State) : settings (setRecq r s) = settings s := rfl
@[simp] theorem settings_runParse (P : List Byte) (s : State) : settings (runParse P s) = settings s := rfl
@[simp] theorem settings_runPrep (bs : List Byte) (s : State) : settings (runPrep bs s) = settings s := rfl
@[simp] theorem settings_finishEvparse (n : Nat) (c : EntryCtx) (s : State) :
    settings (finishEvparse n c s) = settings s := rfl

/-- A cipher run writes the CipherEngine's registers alone (R13, R14). -/
theorem settings_cipherRun {blockFn : Nat → Cipher → Cipher} {bs key y : List Byte} {s t : State}
    (h : cipherRun blockFn bs key s = .ok (y, t)) : settings t = settings s := by
  rcases cipherRun_cases blockFn bs key s with ⟨_, _, he⟩ | ⟨_, c, ho⟩
  · rw [he] at h; cases h
  · rw [ho] at h; cases h; rfl

/-! ### The stages of DECODE and the ends of the commands -/

theorem settings_crcStage (s : State) : settings (crcStage s) = settings s := by
  simp only [crcStage]
  split <;> simp [payloadStage]

theorem settings_decryptStage (key : List Byte) (s : State) : settings (decryptStage key s) = settings s := by
  simp only [decryptStage]
  split
  · simp
  · next pt u hc => simp [settings_crcStage, settings_cipherRun hc]

theorem settings_keyStage (s : State) : settings (keyStage s) = settings s := by
  simp only [keyStage]
  split <;> simp [settings_decryptStage]

theorem settings_bodyStage (s : State) : settings (bodyStage s) = settings s := by
  simp only [bodyStage]
  split
  · simp
  · split <;> simp [settings_keyStage]

theorem settings_frameStage (D : List Byte) (s : State) : settings (frameStage D s) = settings s := by
  simp only [frameStage]
  split
  · simp
  · split <;> simp [settings_bodyStage]

theorem settings_cipherEnd (blockFn : Nat → Cipher → Cipher) (bs : List Byte) (s : State) :
    settings (cipherEnd blockFn bs s) = settings s := by
  unfold cipherEnd
  split
  · simp
  · next y u hc => simp [settings_cipherRun hc]

theorem settings_buildEnd (bs : List Byte) (s : State) : settings (buildEnd bs s) = settings s := by
  unfold buildEnd
  split
  · simp
  · next y u hc => simp [settings_cipherRun hc]

/-- The end of a command that reads its whole input writes no setting. -/
theorem settings_inputEnd {i : Instr} {f : List Byte → State → State} (h : inputEnd i = some f) (bs : List Byte)
    (s : State) : settings (f bs s) = settings s := by
  cases i <;> cases h
  case decode => exact settings_frameStage bs s
  case xteaEnc | xteaDec => exact settings_cipherEnd _ bs s
  case build => exact settings_buildEnd bs s
  case unstuff => unfold unstuffEnd; split <;> simp
  all_goals rfl

/-! ### Every instruction -/

theorem settings_command {i : Instr} {s t : State} (hi : i.isCommand = true) (h : exec i s = .next t) :
    settings t = settings s := by
  obtain ⟨-, ⟨f, bs, hf, -, rfl⟩ | ⟨d, -, -, -, rfl⟩ | rfl⟩ := command_next hi h
  · simp [settings_inputEnd hf]
  · rfl
  · rfl

theorem settings_afterRecord (c : ParseCtx) (s : State) : settings (afterRecord c s) = settings s := by
  unfold afterRecord; split <;> simp

theorem settings_afterEntry (d : List Byte) (c : EntryCtx) (s : State) : settings (afterEntry d c s) = settings s := by
  unfold afterEntry; split <;> simp

theorem settings_exec {i : Instr} {s t : State} (h : exec i s = .next t) : settings t = settings s := by
  cases hs : i.space with
  | cmd => exact settings_command (by simp [Instr.isCommand, hs]) h
  | stuffIn =>
    obtain ⟨out, -, he⟩ := exec_stuffSymbol hs
    obtain ⟨sc, -, rfl⟩ := stuffStep_next (he s ▸ h)
    rfl
  | unstuffIn =>
    obtain ⟨sym, -, he⟩ := exec_unstuffSymbol hs
    obtain ⟨sc, -, ⟨_, _, _, rfl⟩ | ⟨_, _, rfl⟩⟩ := unstuffStep_next (he s ▸ h) <;> rfl
  | record =>
    obtain ⟨rule, -, he⟩ := exec_record hs
    obtain ⟨P, -, rfl⟩ := recordStep_next (he s ▸ h)
    exact settings_afterRecord _ s
  | entry =>
    obtain ⟨rule, -, he⟩ := exec_entry hs
    obtain ⟨d, p, es, -, rfl⟩ := entryStep_next (he s ▸ h)
    exact settings_afterEntry d _ s

/-- Settles O11: every named operation keeps the settings, and every instruction is made of named operations. -/
theorem noInstructionWritesTheConfiguration : Obligations.NoInstructionWritesTheConfiguration :=
  fun _ _ _ h => kept_iff.2 (settings_exec h)

end Sys2Proof.Machine
end

section
/-! SUPPORT. On what a command depends (10_state.md R11, R36; 20_memory.md R41): states that differ in CMD, IBUF, the
working registers and the counter of free values alone, which every named operation keeps so. -/

namespace Sys2Proof.Machine

open Sys2Proof.Claims

/-- The two states differ in CMD, IBUF, the working registers and work buffers, and the counter `free` alone: in nothing
a command shows. -/
def Alike (s t : State) : Prop :=
  ∃ cmd ibuf work free, t = { s with cmd := cmd, ibuf := ibuf, work := work, free := free }

namespace Alike

variable {s t : State}

theorem finishOk : Alike s t → Alike (finishOk s) (finishOk t) := by rintro ⟨_, _, _, _, rfl⟩; exact ⟨_, _, _, _, rfl⟩

theorem raiseFatal (e : FatalError) : Alike s t → Alike (raiseFatal e s) (raiseFatal e t) := by
  rintro ⟨_, _, _, _, rfl⟩; exact ⟨_, _, _, _, rfl⟩

theorem endCmdErr : Alike s t → Alike (endCmdErr s) (endCmdErr t) := by
  rintro ⟨_, _, _, _, rfl⟩; exact ⟨_, _, _, _, rfl⟩

theorem setStage (st : Stage) : Alike s t → Alike (setStage st s) (setStage st t) := by
  rintro ⟨_, _, _, _, rfl⟩; exact ⟨_, _, _, _, rfl⟩

theorem setObuf (bs : List Byte) : Alike s t → Alike (setObuf bs s) (setObuf bs t) := by
  rintro ⟨_, _, _, _, rfl⟩; exact ⟨_, _, _, _, rfl⟩

theorem setDevid (d : BitVec 64) : Alike s t → Alike (setDevid d s) (setDevid d t) := by
  rintro ⟨_, _, _, _, rfl⟩; exact ⟨_, _, _, _, rfl⟩

theorem setCrcOut (v : BitVec 16) : Alike s t → Alike (setCrcOut v s) (setCrcOut v t) := by
  rintro ⟨_, _, _, _, rfl⟩; exact ⟨_, _, _, _, rfl⟩

theorem runCrc (bs : List Byte) (v : BitVec 16) : Alike s t → Alike (runCrc bs v s) (runCrc bs v t) := by
  rintro ⟨_, _, _, _, rfl⟩; exact ⟨_, _, _, _, rfl⟩

theorem runPrep (bs : List Byte) : Alike s t → Alike (runPrep bs s) (runPrep bs t) := by
  rintro ⟨_, _, _, _, rfl⟩; exact ⟨_, _, _, _, rfl⟩

theorem setCipher (c d : Cipher) : Alike s t → Alike (setCipher c s) (setCipher d t) := by
  rintro ⟨_, _, _, _, rfl⟩; exact ⟨_, _, _, _, rfl⟩

theorem setBody (bs : List Byte) : Alike s t → Alike (setBody bs s) (setBody bs t) := by
  rintro ⟨_, _, _, _, rfl⟩; exact ⟨_, _, _, _, rfl⟩

theorem setCt (bs : List Byte) : Alike s t → Alike (setCt bs s) (setCt bs t) := by
  rintro ⟨_, _, _, _, rfl⟩; exact ⟨_, _, _, _, rfl⟩

theorem setPt (bs : List Byte) : Alike s t → Alike (setPt bs s) (setPt bs t) := by
  rintro ⟨_, _, _, _, rfl⟩; exact ⟨_, _, _, _, rfl⟩

theorem markPayload : Alike s t → Alike (markPayload s) (markPayload t) := by
  rintro ⟨_, _, _, _, rfl⟩; exact ⟨_, _, _, _, rfl⟩

theorem requestKey (q : List Byte) : Alike s t → Alike (requestKey q s) (requestKey q t) := by
  rintro ⟨_, _, _, _, rfl⟩; exact ⟨_, _, _, _, rfl⟩

theorem setParse (c : ParseCtx) : Alike s t → Alike (setParse c s) (setParse c t) := by
  rintro ⟨_, _, _, _, rfl⟩; exact ⟨_, _, _, _, rfl⟩

theorem finishEvparse (n : Nat) (c : EntryCtx) : Alike s t → Alike (finishEvparse n c s) (finishEvparse n c t) := by
  rintro ⟨_, _, _, _, rfl⟩; exact ⟨_, _, _, _, rfl⟩

/-! What alike states agree on. -/

theorem crcInit_eq : Alike s t → t.crcInit = s.crcInit := by rintro ⟨_, _, _, _, rfl⟩; rfl
theorem key_eq : Alike s t → t.key = s.key := by rintro ⟨_, _, _, _, rfl⟩; rfl
theorem devidIn_eq : Alike s t → t.devidIn = s.devidIn := by rintro ⟨_, _, _, _, rfl⟩; rfl
theorem roundsOf_eq : Alike s t → roundsOf t = roundsOf s := by rintro ⟨_, _, _, _, rfl⟩; rfl
theorem res_eq : Alike s t → t.res = s.res := by rintro ⟨_, _, _, _, rfl⟩; rfl
theorem keyAnswer_eq (q : List Byte) : Alike s t → keyAnswer t q = keyAnswer s q := by
  rintro ⟨_, _, _, _, rfl⟩; rfl
theorem shows_eq : Alike s t → viewOf t = viewOf s ∧ t.walk = s.walk ∧ t.off = s.off := by
  rintro ⟨_, _, _, _, rfl⟩; exact ⟨rfl, rfl, rfl⟩

end Alike

/-- The start of a command from the same operands (R11). -/
theorem alike_startCommand {s t : State} (h : SameOperands s t) : Alike (startCommand s) (startCommand t) := by
  refine ⟨t.cmd, t.ibuf, { t.work with body := [], ct := [], pt := [] }, t.free, ?_⟩
  simp only [startCommand, h.rounds, h.crcInit, h.key, h.devidIn, h.ilen, h.keyTable, h.keyDefault]

/-! ### Cipher runs load every register they read -/

/-- A block function sets S before it reads it (R103, R104). -/
def SetsS (blockFn : Cipher → Cipher) : Prop := ∀ c s, blockFn { c with s := s } = blockFn c

theorem encryptBlock_setsS (n : Nat) : SetsS (encryptBlock n) := fun _ _ => rfl

theorem decryptBlock_setsS (n : Nat) : SetsS (decryptBlock n) := fun _ _ => rfl

/-- The output of R109's loop comes from the key words alone, whatever V0, V1 and S held. -/
theorem ecbBlocks_output {blockFn : Cipher → Cipher} (hf : SetsS blockFn) (n : Nat) (bs : List Byte) {c d : Cipher}
    (hk : c.k = d.k) : (ecbBlocks blockFn n bs c).1 = (ecbBlocks blockFn n bs d).1 := by
  cases n with
  | zero => rfl
  | succ n =>
    have hb : blockFn (loadBlock (bs.take Config.BLOCK) c) = blockFn (loadBlock (bs.take Config.BLOCK) d) := by
      rw [← hf (loadBlock _ c) d.s]
      simp only [loadBlock, hk]
    simp only [ecbBlocks, hb]

theorem ecb_output {blockFn : Cipher → Cipher} (hf : SetsS blockFn) (bs key : List Byte) (c d : Cipher) :
    (ecb blockFn bs key c).1 = (ecb blockFn bs key d).1 := ecbBlocks_output hf _ bs rfl

/-- Two cipher runs from alike states fail with the same cause, or have the same output and leave alike states. -/
theorem Alike.cipherRun {blockFn : Nat → Cipher → Cipher} (hf : ∀ n, SetsS (blockFn n)) (bs key : List Byte)
    {s t : State} (h : Alike s t) :
    (∃ c, cipherRun blockFn bs key s = .error c ∧ cipherRun blockFn bs key t = .error c) ∨
    (∃ y u v, cipherRun blockFn bs key s = .ok (y, u) ∧ cipherRun blockFn bs key t = .ok (y, v) ∧ Alike u v) := by
  unfold Machine.cipherRun
  rw [h.roundsOf_eq]
  cases admission (roundsOf s) bs with
  | some c => exact .inl ⟨c, rfl, rfl⟩
  | none =>
    refine .inr ⟨_, _, Machine.setCipher (ecb (blockFn (roundsOf s).toNat) bs key t.work.cipher).2 t, rfl, ?_,
      h.setCipher _ _⟩
    simp only [ecb_output (hf _) bs key t.work.cipher s.work.cipher]

/-! ### The stages of DECODE and the ends of the commands -/

theorem Alike.payloadStage {s t : State} (h : Alike s t) (hp : t.work.pt = s.work.pt) :
    Alike (payloadStage s) (payloadStage t) := by
  simp only [Machine.payloadStage, runParse, setObuf_res, markPayload_work, setStage_work, hp]
  exact ((((h.setStage _).markPayload).setObuf _).setParse _).finishOk

theorem Alike.crcStage {s t : State} (h : Alike s t) (hp : t.work.pt = s.work.pt) :
    Alike (crcStage s) (crcStage t) := by
  simp only [Machine.crcStage, Machine.runCrc, setCrc_work, setStage_work, hp]
  have hc := (h.setStage .crc).runCrc (plainPayload s.work.pt) Config.crcDefault
  split
  · exact hc.raiseFatal _
  · exact hc.payloadStage hp

theorem Alike.decryptStage {s t : State} (h : Alike s t) (hc : t.work.ct = s.work.ct) (key : List Byte) :
    Alike (decryptStage key s) (decryptStage key t) := by
  have hx := h.setStage .xtea
  simp only [Machine.decryptStage, setStage_work, hc]
  rcases hx.cipherRun decryptBlock_setsS s.work.ct key with ⟨c, h₁, h₂⟩ | ⟨y, u, v, h₁, h₂, ha⟩
  · simp only [h₁, h₂]; exact hx.raiseFatal _
  · simp only [h₁, h₂]; exact (ha.setPt y).crcStage rfl

theorem Alike.keyStage {s t : State} (h : Alike s t) (hc : t.work.ct = s.work.ct) :
    Alike (keyStage s) (keyStage t) := by
  have hq := (h.setStage .keyLookup).requestKey (decString s.res.devid)
  simp only [Machine.keyStage, h.res_eq, hq.keyAnswer_eq]
  split
  · exact hq.raiseFatal _
  · exact hq.decryptStage hc _

theorem Alike.bodyStage {s t : State} (h : Alike s t) (hb : t.work.body = s.work.body) :
    Alike (bodyStage s) (bodyStage t) := by
  have hi := h.setStage .imei
  simp only [Machine.bodyStage, setStage_work, setDevid_work, hb, setCt_work]
  split
  · exact hi.raiseFatal _
  · have hx := ((hi.setDevid (bodyDevid s.work.body)).setStage .xtea).setCt (bodyCt s.work.body)
    split
    · exact hx.raiseFatal _
    · exact hx.keyStage rfl

theorem Alike.frameStage {s t : State} (h : Alike s t) (D : List Byte) : Alike (frameStage D s) (frameStage D t) := by
  simp only [Machine.frameStage]
  split
  · exact (h.setStage _).raiseFatal _
  · split
    · exact ((h.setStage _).setStage _).raiseFatal _
    · exact (((h.setStage _).setStage _).setBody _).bodyStage rfl

theorem Alike.cipherEnd {s t : State} (h : Alike s t) {blockFn : Nat → Cipher → Cipher} (hf : ∀ n, SetsS (blockFn n))
    (bs : List Byte) : Alike (cipherEnd blockFn bs s) (cipherEnd blockFn bs t) := by
  simp only [Machine.cipherEnd, h.key_eq]
  rcases h.cipherRun hf bs s.key.toList with ⟨c, h₁, h₂⟩ | ⟨y, u, v, h₁, h₂, ha⟩
  · simp only [h₁, h₂]; exact h.raiseFatal _
  · simp only [h₁, h₂]; exact (ha.setObuf y).finishOk

theorem Alike.buildEnd {s t : State} (h : Alike s t) (bs : List Byte) : Alike (buildEnd bs s) (buildEnd bs t) := by
  have hp := h.runPrep bs
  simp only [Machine.buildEnd, h.key_eq]
  rcases hp.cipherRun encryptBlock_setsS (preparePlaintext bs) s.key.toList with
    ⟨c, h₁, h₂⟩ | ⟨y, u, v, h₁, h₂, ha⟩
  · simp only [h₁, h₂]; exact hp.raiseFatal _
  · simp only [h₁, h₂, ha.devidIn_eq]; exact ((ha.setCt y).setObuf _).finishOk

/-- A command that reads its whole input ends alike from alike states. -/
theorem Alike.inputEnd {i : Instr} {f : List Byte → State → State} (hi : inputEnd i = some f) (bs : List Byte)
    {s t : State} (h : Alike s t) : Alike (f bs s) (f bs t) := by
  cases i <;> cases hi
  case crc16 => simp only [crcEnd, h.crcInit_eq]; exact ((h.runCrc _ _).setCrcOut _).finishOk
  case xteaEnc => exact h.cipherEnd encryptBlock_setsS bs
  case xteaDec => exact h.cipherEnd decryptBlock_setsS bs
  case stuff => exact (h.setObuf _).finishOk
  case unstuff =>
    unfold unstuffEnd
    split
    · exact h.raiseFatal _
    · exact (h.setObuf _).finishOk
  case decode => exact h.frameStage bs
  case parse => exact (h.setParse _).finishOk
  case prep => exact ((h.runPrep bs).setObuf _).finishOk
  case frame => simp only [obufEnd, h.devidIn_eq]; exact (h.setObuf _).finishOk
  case build => exact h.buildEnd bs

/-! ### OFF -/

theorem off_cipherRun {blockFn : Nat → Cipher → Cipher} {bs key y : List Byte} {s t : State}
    (h : cipherRun blockFn bs key s = .ok (y, t)) : t.off = s.off := by
  rcases cipherRun_cases blockFn bs key s with ⟨_, _, he⟩ | ⟨_, c, ho⟩
  · rw [he] at h; cases h
  · rw [ho] at h; cases h; rfl

/-- Only PARSE and DECODE move OFF (R20). -/
theorem off_inputEnd {i : Instr} {f : List Byte → State → State} (hi : inputEnd i = some f) (hp : i ≠ .parse)
    (hd : i ≠ .decode) (bs : List Byte) (s : State) : (f bs s).off = s.off := by
  cases i <;> cases hi
  case decode => exact absurd rfl hd
  case parse => exact absurd rfl hp
  case xteaEnc | xteaDec =>
    unfold cipherEnd
    split
    · rfl
    · next y u hc => simp [off_cipherRun hc]
  case build =>
    unfold buildEnd
    split
    · rfl
    · next y u hc => simpa using off_cipherRun hc
  case unstuff => unfold unstuffEnd; split <;> rfl
  all_goals rfl

/-- A command that may start answers alike from the same operands. -/
theorem alike_command {i : Instr} {s₁ s₂ t₁ : State} (hi : i.isCommand = true) (ho : SameOperands s₁ s₂)
    (hm : mayStart s₂ = true) (h : exec i s₁ = .next t₁) : ∃ t₂, exec i s₂ = .next t₂ ∧ Alike t₁ t₂ := by
  have ha := alike_startCommand ho
  rcases command_kinds hi with ⟨f, hf⟩ | rfl | hill
  · rw [exec_inputEnd hf] at h
    obtain ⟨-, bs, hr, rfl⟩ := runInput_next h
    exact ⟨_, by rw [exec_inputEnd hf, runInput_ok hm (ho.input ▸ hr)], ha.inputEnd hf bs⟩
  · change execEvparse s₁ = .next t₁ at h
    change ∃ t₂, execEvparse s₂ = .next t₂ ∧ Alike t₁ t₂
    by_cases hl : s₁.ilen.toNat ≤ maxEventData
    · rw [execEvparse_short hl] at h
      obtain ⟨-, d, hr, rfl⟩ := runInput_next h
      exact ⟨evparseEnd d _, by rw [execEvparse_short (ho.ilen ▸ hl), runInput_ok hm (ho.input ▸ hr)],
        ha.finishEvparse _ _⟩
    · rw [execEvparse_long (by omega)] at h
      obtain ⟨-, rfl⟩ := illegalCommand_next h
      exact ⟨_, by rw [execEvparse_long (ho.ilen ▸ by omega), illegalCommand_rest hm], ha.endCmdErr⟩
  · rw [hill] at h
    obtain ⟨-, rfl⟩ := illegalCommand_next h
    exact ⟨_, by rw [hill, illegalCommand_rest hm], ha.endCmdErr⟩

/-- The start of a command clears OFF, and no command but PARSE and DECODE moves it (R11, R20). -/
theorem off_command {i : Instr} {s t : State} (hi : i.isCommand = true) (h : exec i s = .next t) (hp : i ≠ .parse)
    (hd : i ≠ .decode) : t.off = 0 := by
  obtain ⟨-, ⟨f, bs, hf, -, rfl⟩ | ⟨d, -, -, -, rfl⟩ | rfl⟩ := command_next hi h
  · simp [off_inputEnd hf hp hd]
  · rfl
  · rfl

/-- Settles O12: the starts of the two runs are alike, and every command keeps states alike. -/
theorem commandsForgetEarlierCommands : Obligations.CommandsForgetEarlierCommands := by
  intro i s₁ s₂ t₁ hi ho hm h
  obtain ⟨t₂, h₂, ha⟩ := alike_command hi ho hm h
  exact ⟨⟨t₂, h₂, ha.shows_eq⟩, off_command hi h⟩

end Sys2Proof.Machine
end

section
/-! SUPPORT. The input of a command and EVPARSE's end (20_memory.md R41, 45_event_parser.md R206), and the host's writes
(70_reset_and_hazards.md R270, R277, R278). -/

namespace Sys2Proof.Machine

/-- A read of IBUF stops at the first byte that was never written (R38, U3). -/
theorem memReadN_unwritten {m : List Host.Cell} {lo n a : Nat} (hlo : lo ≤ a) (ha : a < lo + n)
    (hn : memRead m a = none) (hw : ∀ b, b < a → memRead m b ≠ none) : memReadN m lo n = .error a := by
  induction n generalizing lo with
  | zero => omega
  | succ n ih =>
    rcases Nat.eq_or_lt_of_le hlo with rfl | hlt
    · simp [memReadN, hn]
    · obtain ⟨v, hv⟩ := Option.ne_none_iff_exists'.mp (hw lo hlt)
      simp [memReadN, hv, ih hlt (by omega)]

/-- Settles O14: the read of the operand stops there before any rule of the command. -/
theorem unwrittenInputStopsCommands : Obligations.UnwrittenInputStopsCommands := by
  intro s a hm ha hn hw
  have hr : readInput s = .error a := memReadN_unwritten (Nat.zero_le a) (by omega) hn hw
  constructor
  · intro i hi
    obtain ⟨f, hf⟩ : ∃ f, inputEnd i = some f := by
      simp only [List.mem_cons, List.not_mem_nil, or_false] at hi
      rcases hi with rfl | rfl | rfl | rfl | rfl | rfl | rfl | rfl | rfl | rfl <;> exact ⟨_, rfl⟩
    rw [exec_inputEnd hf, runInput_unwritten hm hr]
  · intro hl
    change execEvparse s = _
    rw [execEvparse_short hl, runInput_unwritten hm hr]

/-- Settles O34: EVPARSE is `evparseEnd` on an input it takes, and an illegal command on a longer one. -/
theorem evparseEnds : Obligations.EvparseEnds := by
  refine ⟨by decide, fun s hm => ⟨fun bs hr hl => ?_, fun hl => ?_⟩⟩
  · refine ⟨evparseEnd bs (startCommand s), ?_, kept_iff.2 rfl, rfl, rfl⟩
    exact (execEvparse_short hl).trans (runInput_ok hm hr)
  · refine ⟨endCmdErr (startCommand s), ?_, kept_iff.2 rfl, rfl, rfl⟩
    exact (execEvparse_long hl).trans (illegalCommand_rest hm)

/-! ### The host's port -/

/-- With the host's turn a write is stored. -/
theorem hostAct_turn {s : State} (h : hostTurn s = true) (w : HostWrite) : hostAct w s = hostStore w s := by
  cases w <;> simp [hostAct, h]

/-- Without the host's turn every write but reset is refused (R278, log 11). -/
theorem hostAct_noTurn {s : State} (h : hostTurn s = false) {w : HostWrite} (hw : w ≠ .reset) :
    hostAct w s = .refused .hostWhileBusy := by
  cases w
  case reset => exact absurd rfl hw
  all_goals simp [hostAct, h]

theorem hostStore_ibufByte {a : Nat} (h : a < Config.BUF_CAP) (v : Byte) (s : State) :
    hostStore (.ibufByte a v) s = .next { s with ibuf := memWrite s.ibuf a v } := if_pos h

theorem hostStore_ibufByte_outside {a : Nat} (h : Config.BUF_CAP ≤ a) (v : Byte) (s : State) :
    hostStore (.ibufByte a v) s = .fault (.ibufOutOfRange a) := if_neg (by omega)

theorem hostStore_input {bs : List Byte} (h : bs.length ≤ Config.BUF_CAP) (s : State) :
    hostStore (.input bs) s = .next (storeInput bs s) := if_pos h

theorem hostStore_input_tooLong {bs : List Byte} (h : Config.BUF_CAP < bs.length) (s : State) :
    hostStore (.input bs) s = .fault (.ibufOutOfRange Config.BUF_CAP) := if_neg (by omega)

/-- A block of writes leaves every byte above it. -/
theorem memRead_memWriteN_above (m : List Host.Cell) (vs : List Byte) {a b : Nat} (h : a + vs.length ≤ b) :
    memRead (memWriteN m a vs) b = memRead m b := by
  induction vs generalizing m a with
  | nil => rfl
  | cons v vs ih =>
    simp only [List.length_cons] at h
    rw [memWriteN, ih _ (by omega), memRead_memWrite_other _ _ _ _ (by omega)]

/-- Settles O6: the reset values are the defaults of `State.reset`, and the host's reset answers them at any time. -/
theorem resetLeavesTheStatedValues : Obligations.ResetLeavesTheStatedValues :=
  ⟨⟨rfl, rfl, rfl, rfl, rfl, rfl, rfl, rfl, rfl, rfl⟩, fun _ => rfl⟩

/-- Settles O10: with the turn each write is `hostStore`'s, and IBUF and KEY read back what was stored. -/
theorem hostWriteIsReadBack : Obligations.HostWriteIsReadBack := by
  refine fun s => ⟨fun h => ⟨?_, ?_, ?_, ?_, ?_, ?_, ?_, ?_, ?_⟩, fun h w hw => hostAct_noTurn h hw⟩ <;>
    simp only [hostAct_turn h]
  case refine_1 | refine_2 | refine_3 | refine_4 => exact fun _ => rfl
  case refine_5 => exact fun _ _ => rfl
  case refine_6 =>
    intro i v
    refine ⟨_, rfl, ?_, fun j hj => ?_, rfl⟩
    · exact Vector.getElem_set_self i.isLt
    · exact Vector.getElem_set_ne i.isLt j.isLt (fun he => hj (Fin.ext he.symm))
  case refine_7 =>
    refine fun a v => ⟨fun ha => ⟨_, hostStore_ibufByte ha v s, memRead_memWrite_same _ _ _, fun b hb => ?_, rfl⟩,
      fun ha => hostStore_ibufByte_outside ha v s⟩
    exact memRead_memWrite_other _ _ _ _ hb
  case refine_8 =>
    refine fun bs => ⟨fun hl => ⟨_, hostStore_input hl s, readInput_storeInput bs s hl, fun b hb => ?_, rfl⟩,
      fun hl => hostStore_input_tooLong hl s⟩
    exact memRead_memWriteN_above _ _ (by omega)
  case refine_9 => exact fun c => ⟨_, rfl, kept_iff.2 rfl, rfl, rfl⟩

end Sys2Proof.Machine
end

section
/-! SUPPORT. The decimal string of a device id (10_state.md R24). -/

namespace Sys2Proof.Machine

open Sys2Proof.Claims

/-- `digit n` is the ASCII digit of the last decimal digit of `n`. -/
theorem digit_toNat (n : Nat) : (digit n).toNat = 48 + n % 10 := by
  simp only [digit, BitVec.toNat_ofNat]; omega

theorem digit_eq_zero_iff {n : Nat} : digit n = 48 ↔ n % 10 = 0 := by
  rw [← BitVec.toNat_inj, digit_toNat]; simp

/-- A digit more multiplies the value by ten. -/
theorem stringValue_concat (ds : List Byte) (d : Byte) :
    stringValue (ds ++ [d]) = 10 * stringValue ds + (d.toNat - 48) := by simp [stringValue]

theorem decDigits_lt_ten {n : Nat} (fuel : Nat) (h : n < 10) : decDigits (fuel + 1) n = [digit n] := by
  simp [decDigits, h]

theorem decDigits_ge_ten {n : Nat} (fuel : Nat) (h : 10 ≤ n) :
    decDigits (fuel + 1) n = decDigits fuel (n / 10) ++ [digit n] := by
  rw [decDigits, if_neg (by omega)]

theorem decDigits_length_le (fuel n : Nat) : (decDigits fuel n).length ≤ fuel := by
  induction fuel generalizing n with
  | zero => simp [decDigits]
  | succ fuel ih =>
    rcases Nat.lt_or_ge n 10 with h | h
    · simp [decDigits_lt_ten fuel h]
    · simp [decDigits_ge_ten fuel h, ih]

theorem decDigits_ne_nil {fuel : Nat} (n : Nat) (hf : 0 < fuel) : decDigits fuel n ≠ [] := by
  obtain ⟨fuel, rfl⟩ := Nat.exists_eq_succ_of_ne_zero hf.ne'
  rcases Nat.lt_or_ge n 10 with h | h
  · simp [decDigits_lt_ten fuel h]
  · simp [decDigits_ge_ten fuel h]

/-- Every byte is an ASCII digit. -/
theorem decDigits_ascii (fuel n : Nat) : ∀ c ∈ decDigits fuel n, 48 ≤ c.toNat ∧ c.toNat ≤ 57 := by
  have hd : ∀ n, 48 ≤ (digit n).toNat ∧ (digit n).toNat ≤ 57 := fun n => by rw [digit_toNat]; omega
  induction fuel generalizing n with
  | zero => simp [decDigits]
  | succ fuel ih =>
    rcases Nat.lt_or_ge n 10 with h | h
    · simp [decDigits_lt_ten fuel h, hd]
    · simp only [decDigits_ge_ten fuel h, List.mem_append, List.mem_singleton]
      rintro c (hc | rfl)
      · exact ih _ c hc
      · exact hd n

/-- Enough digits stand for the number. -/
theorem stringValue_decDigits {fuel n : Nat} (h : n < 10 ^ fuel) : stringValue (decDigits fuel n) = n := by
  induction fuel generalizing n with
  | zero => simp at h; simp [decDigits, stringValue, h]
  | succ fuel ih =>
    rcases Nat.lt_or_ge n 10 with hs | hs
    · rw [decDigits_lt_ten fuel hs, ← List.nil_append [digit n], stringValue_concat, digit_toNat]
      simp only [stringValue, List.foldl_nil]; omega
    · rw [decDigits_ge_ten fuel hs, stringValue_concat, digit_toNat, ih (by rw [pow_succ] at h; omega)]
      omega

/-- The first digit of a number but 0 is not 0. -/
theorem decDigits_head {fuel n : Nat} (h : n < 10 ^ fuel) (hn : 0 < n) : (decDigits fuel n).head? ≠ some 48 := by
  induction fuel generalizing n with
  | zero => simp [decDigits]
  | succ fuel ih =>
    rcases Nat.lt_or_ge n 10 with hs | hs
    · simp only [decDigits_lt_ten fuel hs, List.head?_cons, ne_eq, Option.some.injEq, digit_eq_zero_iff]; omega
    · have hq : n / 10 < 10 ^ fuel := by rw [pow_succ] at h; omega
      have hf : 0 < fuel := by
        rcases Nat.eq_zero_or_pos fuel with rfl | hf
        · simp at hq; omega
        · exact hf
      rw [decDigits_ge_ten fuel hs, List.head?_append_of_ne_nil _ (decDigits_ne_nil _ hf)]
      exact ih hq (by omega)

/-- Settles O51: 20 digits are enough for 64 bits. -/
theorem deviceIdStringIsItsDecimalNumeral : Obligations.DeviceIdStringIsItsDecimalNumeral := by
  intro d
  have hd : d.toNat < 10 ^ 20 := lt_trans d.isLt (by decide)
  refine ⟨List.length_pos_iff.2 (decDigits_ne_nil _ (by decide)), decDigits_length_le _ _, decDigits_ascii _ _,
    fun h => ?_, stringValue_decDigits hd⟩
  rcases Nat.eq_zero_or_pos d.toNat with h0 | hpos
  · unfold decString; rw [h0]; rfl
  · exact absurd h (decDigits_head hd hpos)

end Sys2Proof.Machine
end

section
/-! SUPPORT. What the entry parser and the payload decoder leave sound (10_state.md R30 to R34, 44_payload_decoder.md
R162, R180, R183; 45_event_parser.md R202 to R204): cursors inside the buffer, well-formed entries and records, one
warning for each well-formed error. -/

namespace Sys2Proof.Machine

/-! ### The queues -/

/-- WARNQ has one warning for every error of ERRQ, in order, and the errors are well formed (R183, R34). -/
structure QueuesSound (w : List Warning) (e : List NfError) : Prop where
  paired : w = e.map NfError.warning
  errors : e.all NfError.wf = true

theorem queuesSound_nil : QueuesSound [] [] := ⟨rfl, rfl⟩

/-- A well-formed error pushed with its warning. -/
theorem QueuesSound.push {w : List Warning} {e : List NfError} (h : QueuesSound w e) {x : NfError}
    (hx : x.wf = true) : QueuesSound (w ++ [x.warning]) (e ++ [x]) :=
  ⟨by simp [h.paired], by simp [h.errors, hx]⟩

/-! ### Event entries -/

/-- The entries are well formed (R32). -/
def EntriesWf (es : List EventEntry) : Prop := es.all (·.wf Config.evtLen) = true

theorem EntriesWf.concat {es : List EventEntry} {e : EventEntry} (h : EntriesWf es)
    (he : e.wf Config.evtLen = true) : EntriesWf (es ++ [e]) := by
  unfold EntriesWf at *; simp [h, he]

/-- What the entry parser does to its context on the data `d`. -/
structure EntryAdvance (d : List Byte) (c c' : EntryCtx) : Prop where
  inside : c'.p ≤ d.length
  entries : EntriesWf c.entries → EntriesWf c'.entries
  queues : QueuesSound c.warnq c.errq → QueuesSound c'.warnq c'.errq

theorem EntryAdvance.trans {d : List Byte} {a b c : EntryCtx} (h : EntryAdvance d a b) (h' : EntryAdvance d b c) :
    EntryAdvance d a c := ⟨h'.inside, h'.entries ∘ h.entries, h'.queues ∘ h.queues⟩

theorem evtLen_zero : Config.evtLen 0x00 = some .four := rfl

theorem evtLen_twenty : Config.evtLen 0x14 = some .one := rfl

theorem evtLen_one_or_four (l : Config.EvtLen) : l.toNat = 1 ∨ l.toNat = 4 := by cases l <;> simp [Config.EvtLen.toNat]

/-- An entry of at most 255 bytes of data, read with its own EVT_LEN entry (R202, R203, R204). -/
theorem readEntry_advance {t : Byte} {len : Option Config.EvtLen} {d : List Byte} {c : EntryCtx}
    (hlen : Config.evtLen t = len) (hd : d.length ≤ 255) (hp : c.p < d.length) :
    EntryAdvance d c (readEntry t len d c) := by
  cases len with
  | none =>
    rw [readEntry_unknown]
    exact ⟨hp, fun h => h.concat (by simp [EventEntry.wf, hlen]),
      fun h => h.push (x := ⟨.payloadParse, .unknownTypeId, .typeId t c.p⟩) (by simp [NfError.wf]; omega)⟩
  | some l =>
    rcases Nat.lt_or_ge d.length (c.p + 1 + l.toNat) with hcut | hall
    · rw [readEntry_cut hcut]
      have hl := evtLen_one_or_four l
      exact ⟨hp, fun h => h.concat (by simp [EventEntry.wf, hlen]; omega),
        fun h => h.push (x := ⟨.payloadParse, .eventTypeLenMismatch, .typeLen t l.toNat (d.length - (c.p + 1))⟩)
          (by simp [NfError.wf]; omega)⟩
    · rw [readEntry_value hall]
      exact ⟨hall, fun h => h.concat (by simp [EventEntry.wf, hlen]; omega), id⟩

/-- The rule of every entry type reads its id with that id's EVT_LEN entry. -/
theorem entryRule_advance {i : Instr} {rule : List Byte → EntryCtx → EntryCtx}
    (hr : entryRule Config.params i = some rule) {d : List Byte} {c : EntryCtx} (hd : d.length ≤ 255)
    (hp : c.p < d.length) : EntryAdvance d c (rule d c) := by
  cases i <;> cases hr
  case entryType0 => exact readEntry_advance evtLen_zero hd hp
  case entryType20 => exact readEntry_advance evtLen_twenty hd hp
  all_goals exact readEntry_advance rfl hd hp

/-- The decoder answers an instruction only before the end of the buffer. -/
theorem lt_of_decode_drop {sp : Space} {bs : List Byte} {n : Nat} {i : Instr} (h : decode sp (bs.drop n) = .ok i) :
    n < bs.length := by
  obtain ⟨-, -, hne⟩ := decode_ok h
  simpa using hne

theorem entryLoop_advance (fuel : Nat) {d : List Byte} {c : EntryCtx} (hd : d.length ≤ 255) (hp : c.p ≤ d.length) :
    EntryAdvance d c (entryLoop Config.params fuel d c) := by
  induction fuel generalizing c with
  | zero => exact ⟨hp, id, id⟩
  | succ fuel ih =>
    unfold entryLoop
    split
    · exact ⟨hp, id, id⟩
    · split
      · exact ⟨hp, id, id⟩
      · next i hi =>
        split
        · exact ⟨hp, id, id⟩
        · next rule hr =>
          have hstep := entryRule_advance hr hd (lt_of_decode_drop hi)
          exact hstep.trans (ih hstep.inside)

theorem parseEntries_advance {d : List Byte} (hd : d.length ≤ 255) (w : List Warning) (e : List NfError) :
    EntryAdvance d { warnq := w, errq := e } (parseEntries Config.params d w e) :=
  entryLoop_advance _ hd (Nat.zero_le _)

theorem parseEntries_entriesWf {d : List Byte} (hd : d.length ≤ 255) (w : List Warning) (e : List NfError) :
    EntriesWf (parseEntries Config.params d w e).entries := (parseEntries_advance hd w e).entries rfl

/-! ### The reads of the payload decoder -/

/-- The queues of the payload walk are sound, RECQ among them (R30, R183). -/
structure ParseCtx.Sound (c : ParseCtx) : Prop where
  queues : QueuesSound c.warnq c.errq
  records : c.recq.all (·.wf Config.evtLen) = true

theorem ParseCtx.Sound.record {c : ParseCtx} {r : Record} (h : c.Sound) (hr : r.wf Config.evtLen = true) :
    (c.record r).Sound := ⟨h.queues, by simp [ParseCtx.record, h.records, hr]⟩

/-- What the payload decoder does to its context on the payload `P` (R20): OFF moves forward inside `P`, and the queues
stay sound if `P` fits IBUF. -/
structure Advance (P : List Byte) (c c' : ParseCtx) : Prop where
  forward : c.off ≤ c'.off
  inside : c'.off ≤ P.length
  sound : P.length ≤ Config.BUF_CAP → c.Sound → c'.Sound

theorem Advance.refl {P : List Byte} {c : ParseCtx} (h : c.off ≤ P.length) : Advance P c c :=
  ⟨le_rfl, h, fun _ => id⟩

theorem Advance.trans {P : List Byte} {a b c : ParseCtx} (h : Advance P a b) (h' : Advance P b c) : Advance P a c :=
  ⟨h.forward.trans h'.forward, h'.inside, fun hP => h'.sound hP ∘ h.sound hP⟩

/-- A local failure as R180 reports it: inside the payload, fewer bytes there than wanted. -/
structure LocalFail.Sound (P : List Byte) (f : LocalFail) : Prop where
  inside : f.pos ≤ P.length
  need : f.need < 256
  avail : f.avail < f.need

/-- A read from the context `c` advances, to a value with `Q` or to a sound local failure. -/
def Reads {α : Type} (P : List Byte) (c : ParseCtx) (Q : α → Prop) : Got α → Prop
  | .got v c' => Advance P c c' ∧ Q v
  | .failed f c' => Advance P c c' ∧ f.Sound P

/-- Reads compose. -/
theorem Reads.andThen {α β : Type} {P : List Byte} {c : ParseCtx} {Q : α → Prop} {R : β → Prop} {g : Got α}
    {k : α → ParseCtx → Got β} (hg : Reads P c Q g)
    (hk : ∀ v c', c'.off ≤ P.length → Q v → Reads P c' R (k v c')) : Reads P c R (g.andThen k) := by
  cases g with
  | failed f c' => exact hg
  | got v c' =>
    obtain ⟨hc, hv⟩ := hg
    have hr := hk v c' hc.inside hv
    rw [andThen_got]
    cases hkv : k v c' with
    | got u c'' => rw [hkv] at hr; exact ⟨hc.trans hr.1, hr.2⟩
    | failed f c'' => rw [hkv] at hr; exact ⟨hc.trans hr.1, hr.2⟩

section
variable {P : List Byte} {c : ParseCtx}

/-- The answer of a chain of reads. -/
theorem reads_got {α : Type} {Q : α → Prop} {v : α} (h : c.off ≤ P.length) (hv : Q v) : Reads P c Q (.got v c) :=
  ⟨Advance.refl h, hv⟩

theorem rdN_reads {n : Nat} (hn : n < 256) (h : c.off ≤ P.length) :
    Reads P c (fun v => v.length = n) (rdN n P c) := by
  rcases Nat.lt_or_ge P.length (c.off + n) with hp | hi
  · rw [rdN_past hp]
    exact ⟨Advance.refl h, h, hn, show P.length - c.off < n by omega⟩
  · rw [rdN_inside hi]
    exact ⟨⟨Nat.le_add_right _ _, hi, fun _ hc => ⟨hc.queues, hc.records⟩⟩, by simp; omega⟩

theorem rd8_reads (h : c.off ≤ P.length) : Reads P c (fun _ => True) (rd8 P c) :=
  (rdN_reads (by decide) h).andThen fun _ _ hc _ => reads_got hc trivial

theorem rd32le_reads (h : c.off ≤ P.length) : Reads P c (fun _ => True) (rd32le P c) :=
  (rdN_reads (by decide) h).andThen fun _ _ hc _ => reads_got hc trivial

theorem rdRest_reads (h : c.off ≤ P.length) : Reads P c (fun _ => True) (rdRest P c) :=
  ⟨⟨h, le_rfl, fun _ hc => ⟨hc.queues, hc.records⟩⟩, trivial⟩

theorem pushRecord_reads {r : Record} (h : c.off ≤ P.length) (hr : r.wf Config.evtLen = true) :
    Reads P c (fun _ => True) (pushRecord r c) := ⟨⟨le_rfl, h, fun _ hc => hc.record hr⟩, trivial⟩

/-- The data of a parameter has the length its length byte tells (R30). -/
theorem readParam_reads (h : c.off ≤ P.length) :
    Reads P c (fun x => x.data.length = x.length.toNat) (readParam P c) :=
  (rd8_reads h).andThen fun _ _ h _ => (rd8_reads h).andThen fun len _ h _ =>
    (rdN_reads len.isLt h).andThen fun _ _ h hd => reads_got h hd

theorem readItems_reads (n : Nat) (h : c.off ≤ P.length) :
    Reads P c (fun xs => xs.length = n ∧ ∀ x ∈ xs, x.data.length = x.length.toNat) (readItems n P c) := by
  induction n generalizing c with
  | zero => exact reads_got h (by simp)
  | succ n ih =>
    refine (readParam_reads h).andThen fun x _ h hx => (ih h).andThen fun xs _ h hxs => reads_got h ?_
    simpa [hx, hxs.1] using hxs.2

/-- An event has well-formed entries, and its anomalies go to the queues (R31, R205). -/
theorem readEvent_reads (h : c.off ≤ P.length) :
    Reads P c (fun v => v.wf Config.evtLen = true) (readEvent Config.params P c) := by
  refine (rd8_reads h).andThen fun code _ h _ => (rd32le_reads h).andThen fun time _ h _ =>
    (rd8_reads h).andThen fun len _ h _ => (rdN_reads len.isLt h).andThen fun d c h hd => ?_
  have hlen : d.length ≤ 255 := by have := len.isLt; omega
  exact ⟨⟨le_rfl, h, fun _ hc => ⟨(parseEntries_advance hlen c.warnq c.errq).queues hc.queues, hc.records⟩⟩,
    parseEntries_entriesWf hlen _ _⟩

theorem readEvents_reads (fuel : Nat) (h : c.off ≤ P.length) :
    Reads P c (fun vs => vs.all (·.wf Config.evtLen) = true) (readEvents Config.params fuel P c) := by
  induction fuel generalizing c with
  | zero => exact reads_got h rfl
  | succ fuel ih =>
    unfold readEvents
    split
    · exact reads_got h rfl
    · refine (readEvent_reads h).andThen fun v _ h hv => (ih h).andThen fun vs _ h hvs => reads_got h ?_
      simp only [List.all_cons, hv, hvs, Bool.and_self]

/-! ### The rule of each record kind -/

/-- The warning and the error of a kind that takes the rest, with the offset of its tag byte (R171, R172). -/
theorem takeRest_reads {r : List Byte → Record} {reason : NfReason} {id : Byte}
    (hr : ∀ raw, (r raw).wf Config.evtLen = true)
    (he : ∀ o < 65536, NfError.wf ⟨.payloadParse, reason, .dataId id o⟩ = true) (h : c.off ≤ P.length) :
    Reads P c (fun _ => True) (takeRest r reason id P c) := by
  refine ⟨⟨h, le_rfl, fun hP hc => ?_⟩, trivial⟩
  have ho : c.off - 1 < 65536 := by unfold Config.BUF_CAP at hP; omega
  exact ⟨hc.queues.push (he _ ho), (hc.record (hr _)).records⟩

/-- A local failure is reported with a well-formed error, and takes the rest of the payload (R180). -/
theorem localFailure_advance {id : Byte} {tagOff : Nat} {f : LocalFail} (hf : f.Sound P) (h : c.off ≤ P.length) :
    Advance P c (localFailure Config.params.failPoint id tagOff P f c) := by
  refine ⟨h, le_rfl, fun hP hc => ?_⟩
  have hx : NfError.wf ⟨.payloadParse, .recordParseFailed, .parse id f.pos f.need f.avail⟩ = true := by
    have := hf.inside; have := hf.need; have := hf.avail; unfold Config.BUF_CAP at hP
    simp [NfError.wf]; omega
  exact ⟨hc.queues.push hx, (hc.record (r := .unknown id _) rfl).records⟩

/-- A record takes its tag byte and advances from there (R160). -/
theorem dispatchRecord_advance {id : Byte} {body : List Byte → ParseCtx → Got Unit} (h : c.off < P.length)
    (hb : ∀ {c : ParseCtx}, c.off ≤ P.length → Reads P c (fun _ => True) (body P c)) :
    Advance P { c with off := c.off + 1 } (dispatchRecord Config.params id body P c) := by
  have hr := hb (c := { c with off := c.off + 1 }) h
  unfold dispatchRecord
  split
  · next hg => rw [hg] at hr; exact hr.1
  · next f c' hg => rw [hg] at hr; exact hr.1.trans (localFailure_advance hr.2 hr.1.inside)

theorem extendedRecord_advance {id : Byte} (hid : inBlock 10 14 id = true) (h : c.off < P.length) :
    Advance P { c with off := c.off + 1 } (extendedRecord Config.params id P c) :=
  dispatchRecord_advance h (takeRest_reads (fun _ => hid) fun o ho => by simpa [NfError.wf, ho] using hid)

theorem unknownRecord_advance (id : Byte) (h : c.off < P.length) :
    Advance P { c with off := c.off + 1 } (unknownRecord Config.params id P c) :=
  dispatchRecord_advance h (takeRest_reads (fun _ => rfl) fun o ho => by simp [NfError.wf, ho])

/-- Every record takes at least its tag byte and stays inside the payload (R20, R160). -/
theorem recordRule_advance {i : Instr} {rule : List Byte → ParseCtx → ParseCtx}
    (hr : recordRule Config.params i = some rule) (hi : i ≠ .pad) (h : c.off < P.length) :
    Advance P { c with off := c.off + 1 } (rule P c) := by
  cases i <;> cases hr
  case pad => exact absurd rfl hi
  case configCommand | readCommand =>
    exact dispatchRecord_advance h fun h => (readParam_reads h).andThen fun _ _ h hx =>
      pushRecord_reads h (by simpa [Record.wf] using hx)
  case configResponse =>
    exact dispatchRecord_advance h fun h => (rd8_reads h).andThen fun _ _ h _ => (rd8_reads h).andThen fun _ _ h _ =>
      pushRecord_reads h rfl
  case archive =>
    exact dispatchRecord_advance h fun h => (rd8_reads h).andThen fun _ _ h _ =>
      (readEvents_reads _ h).andThen fun _ _ h hvs => pushRecord_reads h hvs
  case archiveAck =>
    exact dispatchRecord_advance h fun h => (rd8_reads h).andThen fun _ _ h _ => pushRecord_reads h rfl
  case readResponse =>
    exact dispatchRecord_advance h fun h => (rd8_reads h).andThen fun _ _ h _ => (rd8_reads h).andThen fun _ _ h _ =>
      (rd8_reads h).andThen fun len _ h _ => (rdN_reads len.isLt h).andThen fun _ _ h hd =>
      pushRecord_reads h (by simpa [Record.wf] using hd)
  case auth =>
    exact dispatchRecord_advance h fun h => (rdRest_reads h).andThen fun _ _ h _ => pushRecord_reads h rfl
  case telemetry =>
    exact dispatchRecord_advance h fun h => (rd8_reads h).andThen fun _ _ h _ =>
      (readItems_reads _ h).andThen fun _ _ h hxs => pushRecord_reads h (by simpa [Record.wf] using hxs)
  case rtu800Extended10 | rtu800Extended11 | rtu800Extended12 | rtu800Extended13 | rtu800Extended14 =>
    exact extendedRecord_advance (by decide) h
  all_goals exact unknownRecord_advance _ h

/-- A record or padding leaves the walk inside the payload and the queues sound. -/
theorem recordRule_advance_le {i : Instr} {rule : List Byte → ParseCtx → ParseCtx}
    (hr : recordRule Config.params i = some rule) (h : c.off < P.length) : Advance P c (rule P c) := by
  have htag : Advance P c { c with off := c.off + 1 } :=
    ⟨Nat.le_add_right _ _, h, fun _ hc => ⟨hc.queues, hc.records⟩⟩
  by_cases hi : i = .pad
  · subst hi; cases hr
    exact ⟨le_rfl, h.le, fun _ hc => ⟨hc.queues, hc.records⟩⟩
  · exact htag.trans (recordRule_advance hr hi h)

theorem parseLoop_advance (fuel : Nat) (h : c.off ≤ P.length) :
    Advance P c (parseLoop Config.params fuel P c) := by
  induction fuel generalizing c with
  | zero => exact Advance.refl h
  | succ fuel ih =>
    unfold parseLoop
    split
    · exact Advance.refl h
    · split
      · exact Advance.refl h
      · next i hi =>
        split
        · exact Advance.refl h
        · next rule hr =>
          have hstep := recordRule_advance_le hr (lt_of_decode_drop hi)
          exact hstep.trans (ih hstep.inside)

/-- PARSE leaves sound queues on every payload that fits IBUF. -/
theorem parse_sound (hP : P.length ≤ Config.BUF_CAP) : (parse Config.params P).Sound :=
  (parseLoop_advance _ (Nat.zero_le _)).sound hP ⟨queuesSound_nil, rfl⟩

end

/-- The state after a record has its context's OFF, and the walk has ended where the rule stopped it. -/
theorem afterRecord_off (c : ParseCtx) (s : State) : (afterRecord c s).off = c.off := by
  unfold afterRecord; split <;> rfl

/-- Settles O45: a record's rule advances OFF past its tag byte; padding leaves OFF and ends the walk. -/
theorem recordsMoveForward : Obligations.RecordsMoveForward := by
  intro s P i hw hd
  obtain ⟨-, hsp, -⟩ := decode_ok hd
  obtain ⟨rule, hr, he⟩ := exec_record hsp
  have hlt : (parseCtx s).off < P.length := lt_of_decode_drop hd
  refine ⟨afterRecord (rule P (parseCtx s)) s, by rw [he, recordStep, hw], ?_⟩
  rw [afterRecord_off]
  refine ⟨(recordRule_advance_le hr hlt).inside, ?_⟩
  by_cases hi : i = .pad
  · subst hi; cases hr
    exact .inl ⟨rfl, rfl, rfl⟩
  · exact .inr ⟨hi, (recordRule_advance hr hi hlt).forward⟩

end Sys2Proof.Machine
end

section
/-! SUPPORT. Lengths and reasons: no output is longer than OLEN can say (10_state.md R27), and no fatal error carries
the reason `none` (60_exceptions.md R231). -/

namespace Sys2Proof.Machine

/-! ### Lengths -/

theorem stuffByte_length_le (b : Byte) : (stuffByte b).length ≤ 2 := by
  rw [stuffByte_eq]; split_ifs <;> simp

theorem stuff_length_le (bs : List Byte) : (stuff bs).length ≤ 2 * bs.length := by
  induction bs with
  | nil => simp
  | cons b bs ih => have := stuffByte_length_le b; simp only [stuff_cons, List.length_append, List.length_cons]; omega

/-- A symbol of `stuff` appends at most a pair. -/
theorem stuffRule_length_le {i : Instr} {out : List Byte} (h : stuffRule i = some out) : out.length ≤ 2 := by
  cases i <;> cases h <;> simp [ruleStuffC0, ruleStuffC2, ruleStuffC4, ruleStuffLit00_7F, ruleStuffLit80_BF,
    ruleStuffLitC1_C1, ruleStuffLitC3_C3, ruleStuffLitC5_C5, ruleStuffLitC6_C7, ruleStuffLitC8_CF, ruleStuffLitD0_DF,
    ruleStuffLitE0_FF]

/-- A symbol of `unstuff` that is read appends no more than the bytes it takes, all of them there (R122). -/
theorem unstuffRule_emit {bs out : List Byte} {i : Instr} {n w : Nat} (hd : decode .unstuffIn bs = .ok i)
    (hr : unstuffRule i n = some (.emit out w)) : out.length ≤ w ∧ w ≤ bs.length := by
  cases bs with
  | nil => cases hd
  | cons b rest =>
    by_cases hb : b = Config.ESC
    · cases rest with
      | nil => simp only [decode, hb, beq_self_eq_true, if_true] at hd; cases hd; cases hr
      | cons m more =>
        obtain ⟨ins, hi, hu⟩ := unstuff_escapes m n
        simp only [decode, hb, beq_self_eq_true, if_true, hi] at hd
        cases hd
        rw [hu] at hr
        split_ifs at hr <;> cases hr <;> simp
    · obtain ⟨ins, hi, hu⟩ := unstuff_copies b hb
      simp only [decode, beq_iff_eq, hb, if_false, hi] at hd
      cases hd
      rw [hu] at hr
      cases hr
      simp

theorem unstuffFrom_length_le {fuel i : Nat} {bs out : List Byte} (h : unstuffFrom fuel bs i = .ok out) :
    out.length ≤ bs.length := by
  induction fuel generalizing bs i out with
  | zero => cases h; simp
  | succ fuel ih =>
    unfold unstuffFrom at h
    split at h
    · cases h; simp
    · next ins hd =>
      split at h
      · cases h; simp
      · cases h
      · next o w hr =>
        obtain ⟨ho, hw⟩ := unstuffRule_emit hd hr
        split at h
        · cases h
        · next more hm =>
          cases h
          have hmore := ih hm
          simp only [List.length_drop, List.length_append] at hmore ⊢
          omega

theorem unstuff_length_le {bs out : List Byte} (h : unstuff bs = .ok out) : out.length ≤ bs.length :=
  unstuffFrom_length_le h

theorem ecbBlocks_length (blockFn : Cipher → Cipher) (n : Nat) (bs : List Byte) (c : Cipher) :
    (ecbBlocks blockFn n bs c).1.length = n * Config.BLOCK := by
  induction n generalizing bs c with
  | zero => simp [ecbBlocks]
  | succ n ih => simp only [ecbBlocks, storeBlock, List.length_append, le32_length, ih, Config.BLOCK]; omega

theorem cipherRun_length_le {blockFn : Nat → Cipher → Cipher} {bs key y : List Byte} {s t : State}
    (h : cipherRun blockFn bs key s = .ok (y, t)) : y.length ≤ bs.length := by
  rcases cipherRun_cases blockFn bs key s with ⟨_, _, he⟩ | ⟨_, c, ho⟩
  · rw [he] at h; cases h
  · rw [ho] at h; cases h
    rw [ecb, ecbBlocks_length]
    exact Nat.div_mul_le_self _ _

theorem preparePlaintext_length_le (bs : List Byte) : (preparePlaintext bs).length ≤ bs.length + 9 := by
  simp only [preparePlaintext, padPayload, zeros, List.length_append, le16_length, List.length_replicate, padCount]
  omega

theorem buildFrame_length_le (d : BitVec 64) (bs : List Byte) : (buildFrame d bs).length ≤ 2 * bs.length + 18 := by
  have := stuff_length_le (le64 d ++ bs)
  simp only [buildFrame, List.length_append, le64_length, List.length_singleton] at *
  omega

/-! ### Reasons -/

theorem unstuffRule_reason {i : Instr} {n : Nat} {e : FatalError} (h : unstuffRule i n = some (.bad e)) :
    e.reason ≠ .none := by
  cases i <;> cases h <;> exact nofun

theorem unstuffFrom_reason {fuel i : Nat} {bs : List Byte} {e : FatalError} (h : unstuffFrom fuel bs i = .error e) :
    e.reason ≠ .none := by
  induction fuel generalizing bs i with
  | zero => cases h
  | succ fuel ih =>
    unfold unstuffFrom at h
    split at h
    · cases h
    · split at h
      · cases h
      · next hr => cases h; exact unstuffRule_reason hr
      · split at h
        · next hm => cases h; exact ih hm
        · cases h

theorem unstuff_reason {bs : List Byte} {e : FatalError} (h : unstuff bs = .error e) : e.reason ≠ .none :=
  unstuffFrom_reason h

theorem checkFrame_reason {D : List Byte} {e : FatalError} (h : checkFrame D = some e) : e.reason ≠ .none := by
  unfold checkFrame at h
  split_ifs at h <;> cases h <;> exact nofun

theorem checkBody_reason {body : List Byte} {e : FatalError} (h : checkBody body = some e) : e.reason ≠ .none := by
  unfold checkBody at h
  split_ifs at h; cases h; exact nofun

theorem checkCt_reason {ct : List Byte} {e : FatalError} (h : checkCt ct = some e) : e.reason ≠ .none := by
  unfold checkCt at h
  split_ifs at h; cases h; exact nofun

theorem checkKey_reason {answer : Option (List Byte)} {e : FatalError} (h : checkKey answer = .error e) :
    e.reason ≠ .none := by
  unfold checkKey at h
  split at h
  · cases h; exact nofun
  · split_ifs at h; cases h; exact nofun

theorem checkCrc_reason {pt : List Byte} {v : BitVec 16} {e : FatalError} (h : checkCrc pt v = some e) :
    e.reason ≠ .none := by
  unfold checkCrc at h
  split_ifs at h <;> cases h <;> exact nofun

end Sys2Proof.Machine
end

section
/-! SUPPORT. The invariant of the machine (Safety.lean): what holds while a command runs (`Running`), which every
register write keeps and every end turns into `Inv`; then the steps, one walk at a time. -/

namespace Sys2Proof.Machine

/-! ### While a command runs -/

/-- What holds of IBUF, the pending flag, STATUS and the results from the start of a command to its end. -/
structure InProgress (ibuf : List Host.Cell) (pending : Bool) (st : Status) (r : Results) : Prop where
  ibuf : Memory.wf ibuf = true
  pending : pending = false
  fatal : st.fatal = false
  cmdErr : st.cmdErr = false
  integrity : st.crcOk = st.frameOk
  olen : r.olen.toNat = r.obuf.length
  err : r.err = {}
  devid : st.devidValid = false → r.devid = 0
  queues : QueuesSound r.warnq r.errq
  records : r.recq.all (·.wf Config.evtLen) = true

/-- A command runs in `s`. It speaks of four fields alone: a write of any other field keeps it by definition. -/
def Running (s : State) : Prop := InProgress s.ibuf s.cmdPending s.status s.res

theorem running_startCommand {s : State} (h : Memory.wf s.ibuf = true) : Running (startCommand s) where
  ibuf := h
  pending := rfl
  fatal := rfl
  cmdErr := rfl
  integrity := rfl
  olen := rfl
  err := rfl
  devid := fun _ => rfl
  queues := queuesSound_nil
  records := rfl

namespace Running

variable {s : State}

theorem setObuf {bs : List Byte} (h : Running s) (hl : bs.length < 2 ^ 18) : Running (setObuf bs s) :=
  { h with olen := by simpa using Nat.mod_eq_of_lt hl }

theorem setCrcOut (v : BitVec 16) (h : Running s) : Running (setCrcOut v s) := { h with }

theorem setDevid (d : BitVec 64) (h : Running s) : Running (setDevid d s) := { h with devid := nofun }

theorem markPayload (h : Running s) : Running (markPayload s) := { h with integrity := rfl }

theorem setParse {c : ParseCtx} (h : Running s) (hc : c.Sound) : Running (setParse c s) :=
  { h with queues := hc.queues, records := hc.records }

theorem setAnomalies {w : List Warning} {e : List NfError} (h : Running s) (hq : QueuesSound w e) :
    Running (setAnomalies w e s) := { h with queues := hq }

theorem setRecq {r : List Record} (h : Running s) (hr : r.all (·.wf Config.evtLen) = true) : Running (setRecq r s) :=
  { h with records := hr }

/-- The queues as the payload walk sees them. -/
theorem parseCtx_sound (h : Running s) : (parseCtx s).Sound := ⟨h.queues, h.records⟩

theorem cipherRun {blockFn : Nat → Cipher → Cipher} {bs key y : List Byte} {t : State} (h : Running s)
    (hc : cipherRun blockFn bs key s = .ok (y, t)) : Running t := by
  rcases cipherRun_cases blockFn bs key s with ⟨_, _, he⟩ | ⟨_, c, ho⟩
  · rw [he] at hc; cases hc
  · rw [ho] at hc; cases hc; exact h

/-! Ends. -/

/-- A command that ends with success (R22, R23). -/
theorem finishOk (h : Running s) : Inv (finishOk s) where
  ibuf := h.ibuf
  busy := by simp [Status.endOk, h.pending]
  busyAlone := nofun
  pending := by simp [h.pending]
  ends := by simp [Status.ends, Status.endOk, h.fatal, h.cmdErr]
  integrity := ⟨h.integrity, fun _ => rfl⟩
  olen := h.olen
  errIdle := fun _ => h.err
  errSet := fun hf => absurd (h.fatal.symm.trans hf) nofun
  fatalClears := fun hf => absurd (h.fatal.symm.trans hf) nofun
  devid := h.devid
  anomalies := h.queues.paired
  errors := h.queues.errors
  records := h.records
  walk := rfl

/-- A command that is aborted (R240). -/
theorem raiseFatal {e : FatalError} (h : Running s) (he : e.reason ≠ .none) : Inv (raiseFatal e s) where
  ibuf := h.ibuf
  busy := by simp [Status.endFatal, h.pending]
  busyAlone := nofun
  pending := by simp [h.pending]
  ends := by simp [Status.ends, Status.endFatal, h.cmdErr]
  integrity := ⟨rfl, nofun⟩
  olen := rfl
  errIdle := nofun
  errSet := fun _ => ⟨he, rfl, rfl, rfl⟩
  fatalClears := fun _ => rfl
  devid := h.devid
  anomalies := rfl
  errors := rfl
  records := rfl
  walk := rfl

/-- EVPARSE with a pseudo-record of well-formed entries (R206). -/
theorem finishEvparse {n : Nat} {c : EntryCtx} (h : Running s) (he : EntriesWf c.entries)
    (hq : QueuesSound c.warnq c.errq) : Inv (finishEvparse n c s) := by
  have hr : [evparseRecord n c.entries].all (·.wf Config.evtLen) = true := by
    simpa [evparseRecord, Record.wf, ArchiveEvent.wf, EntriesWf] using he
  exact ((h.setAnomalies hq).setRecq hr).finishOk

/-- A state inside a walk (R22). -/
theorem inv_walking (h : Running s) (hst : s.status = Status.started) (hw : s.walk ≠ .idle) (hwf : walkWf s = true) :
    Inv s where
  ibuf := h.ibuf
  busy := by simp [hst, Status.started, hw]
  busyAlone := fun _ => hst
  pending := by simp [h.pending]
  ends := by rw [hst]; rfl
  integrity := by rw [hst]; exact ⟨rfl, nofun⟩
  olen := h.olen
  errIdle := fun _ => h.err
  errSet := fun hf => absurd (h.fatal.symm.trans hf) nofun
  fatalClears := fun hf => absurd (h.fatal.symm.trans hf) nofun
  devid := h.devid
  anomalies := h.queues.paired
  errors := h.queues.errors
  records := h.records
  walk := hwf

end Running

/-- A state without results and without a walk: at rest after reset, with a command pending, or after a command that
was turned away (R11, R37, R62). -/
theorem inv_cleared {s : State} (hm : Memory.wf s.ibuf = true) (hw : s.walk = .idle) (hr : s.res = {})
    (hq : s.keyRequests = []) (hst : s.status = {} ∧ s.cmdPending = false ∨
      s.status = Status.started ∧ s.cmdPending = true ∨ s.status = cmdErrStatus ∧ s.cmdPending = false) : Inv s := by
  rcases hst with ⟨hst, hp⟩ | ⟨hst, hp⟩ | ⟨hst, hp⟩ <;> exact
    { ibuf := hm
      busy := by simp [hst, hp, hw, Status.started, cmdErrStatus]
      busyAlone := by simp [hst, Status.started, cmdErrStatus]
      pending := fun _ => ⟨hw, hr, hq⟩
      ends := by rw [hst]; rfl
      integrity := by rw [hst]; exact ⟨rfl, nofun⟩
      olen := by rw [hr]; rfl
      errIdle := fun _ => by rw [hr]
      errSet := by rw [hst]; exact nofun
      fatalClears := by rw [hst]; exact nofun
      devid := fun _ => by rw [hr]
      anomalies := by rw [hr]; rfl
      errors := by rw [hr]; rfl
      records := by rw [hr]; rfl
      walk := by rw [walkWf, hw] }

/-- Inside a walk a command runs, and BUSY is the only flag. -/
theorem Inv.running {s : State} (h : Inv s) (hw : s.walk ≠ .idle) : Running s ∧ s.status = Status.started := by
  have hst := h.busyAlone (h.busy.2 (.inr hw))
  have hp : s.cmdPending = false := by
    cases hp : s.cmdPending with
    | false => rfl
    | true => exact absurd (h.pending hp).1 hw
  have hf : s.status.fatal = false := by rw [hst]; rfl
  exact ⟨⟨h.ibuf, hp, hf, by rw [hst]; rfl, h.integrity.1, h.olen, h.errIdle hf, h.devid, ⟨h.anomalies, h.errors⟩,
    h.records⟩, hst⟩

/-! ### The ends of the commands -/

theorem crcStage_inv {s : State} (h : Running s) (hl : s.work.pt.length ≤ Config.BUF_CAP) : Inv (crcStage s) := by
  simp only [crcStage]
  split
  · next e he => exact Running.raiseFatal h (checkCrc_reason he)
  · have hp : (plainPayload s.work.pt).length ≤ Config.BUF_CAP := by simp only [plainPayload, List.length_take]; omega
    have ho : Running (setObuf (plainPayload s.work.pt) (markPayload s)) :=
      (Running.markPayload h).setObuf (by unfold Config.BUF_CAP at hp; omega)
    exact Running.finishOk (Running.setParse ho (parse_sound hp))

theorem decryptStage_inv {key : List Byte} {s : State} (h : Running s) (hl : s.work.ct.length ≤ Config.BUF_CAP) :
    Inv (decryptStage key s) := by
  simp only [decryptStage]
  split
  · exact Running.raiseFatal h nofun
  · next pt t hc =>
    have ht : Running t := Running.cipherRun (s := setStage .xtea s) h hc
    exact crcStage_inv (s := setPt pt t) ht ((cipherRun_length_le hc).trans hl)

theorem keyStage_inv {s : State} (h : Running s) (hl : s.work.ct.length ≤ Config.BUF_CAP) : Inv (keyStage s) := by
  simp only [keyStage]
  split
  · next e he => exact Running.raiseFatal h (checkKey_reason he)
  · exact decryptStage_inv h hl

theorem bodyStage_inv {s : State} (h : Running s) (hl : s.work.body.length ≤ Config.BUF_CAP) : Inv (bodyStage s) := by
  simp only [bodyStage]
  split
  · next e he => exact Running.raiseFatal h (checkBody_reason he)
  · have hd := Running.setDevid (bodyDevid s.work.body) h
    split
    · next e he => exact Running.raiseFatal hd (checkCt_reason he)
    · refine keyStage_inv hd ?_
      simp only [setCt_work, bodyCt, List.length_drop, setStage_work, setDevid_work]; omega

theorem frameStage_inv {D : List Byte} {s : State} (h : Running s) (hl : D.length ≤ Config.BUF_CAP) :
    Inv (frameStage D s) := by
  simp only [frameStage]
  split
  · next e he => exact Running.raiseFatal h (checkFrame_reason he)
  · split
    · next e he => exact Running.raiseFatal h (unstuff_reason he)
    · next body hb =>
      have hlen := unstuff_length_le hb
      refine bodyStage_inv h ?_
      simp only [interior, slice_length] at hlen
      simp only [setBody_work]; omega

theorem cipherEnd_inv {blockFn : Nat → Cipher → Cipher} {bs : List Byte} {s : State} (h : Running s)
    (hl : bs.length ≤ Config.BUF_CAP) : Inv (cipherEnd blockFn bs s) := by
  unfold cipherEnd
  split
  · exact h.raiseFatal nofun
  · next y t hc =>
    have hy := cipherRun_length_le hc
    exact ((h.cipherRun hc).setObuf (by unfold Config.BUF_CAP at hl; omega)).finishOk

theorem buildEnd_inv {bs : List Byte} {s : State} (h : Running s) (hl : bs.length ≤ Config.BUF_CAP) :
    Inv (buildEnd bs s) := by
  have hp : Running (runPrep bs s) := h
  unfold buildEnd
  split
  · exact hp.raiseFatal nofun
  · next ct t hc =>
    have hct := cipherRun_length_le hc
    have hprep := preparePlaintext_length_le bs
    have hframe := buildFrame_length_le t.devidIn ct
    have ht : Running t := hp.cipherRun hc
    exact (Running.setObuf (s := setCt ct t) ht (by unfold Config.BUF_CAP at hl; omega)).finishOk

/-- A command that reads its whole input ends in a state with the invariant. -/
theorem inputEnd_inv {i : Instr} {f : List Byte → State → State} (hi : inputEnd i = some f) {bs : List Byte}
    {s : State} (h : Running s) (hl : bs.length ≤ Config.BUF_CAP) : Inv (f bs s) := by
  have hcap : Config.BUF_CAP = 65535 := rfl
  cases i <;> cases hi
  case crc16 => exact (Running.setCrcOut _ (s := runCrc bs s.crcInit s) h).finishOk
  case xteaEnc | xteaDec => exact cipherEnd_inv h hl
  case stuff => exact (h.setObuf (lt_of_le_of_lt (stuff_length_le bs) (by omega))).finishOk
  case unstuff =>
    unfold unstuffEnd
    split
    · next e he => exact h.raiseFatal (unstuff_reason he)
    · next out ho => exact (h.setObuf (by have := unstuff_length_le ho; omega)).finishOk
  case decode => exact frameStage_inv h hl
  case parse => exact (h.setParse (parse_sound hl)).finishOk
  case prep =>
    have hp : Running (runPrep bs s) := h
    exact (hp.setObuf (by have := preparePlaintext_length_le bs; omega)).finishOk
  case frame => exact (h.setObuf (lt_of_le_of_lt (buildFrame_length_le s.devidIn bs) (by omega))).finishOk
  case build => exact buildEnd_inv h hl

theorem evparseEnd_inv {d : List Byte} {s : State} (h : Running s) (hl : d.length ≤ maxEventData) :
    Inv (evparseEnd d s) :=
  h.finishEvparse (parseEntries_entriesWf hl _ _) ((parseEntries_advance hl _ _).queues queuesSound_nil)

/-- A command that is turned away (R62, R206). -/
theorem endCmdErr_inv {s : State} (h : Memory.wf s.ibuf = true) : Inv (endCmdErr (startCommand s)) :=
  inv_cleared h rfl rfl rfl (.inr (.inr ⟨rfl, rfl⟩))

/-- Every command ends in a state with the invariant, from any state whose IBUF has its canonical form. -/
theorem command_inv {i : Instr} {s t : State} (h : Memory.wf s.ibuf = true) (hi : i.isCommand = true)
    (ht : exec i s = .next t) : Inv t := by
  have hs := running_startCommand h
  have hcap : ∀ {bs}, readInput s = .ok bs → bs.length ≤ Config.BUF_CAP := fun hr => by
    rw [readInput_length hr]; exact Nat.le_of_lt_succ s.ilen.isLt
  obtain ⟨-, ⟨f, bs, hf, hr, rfl⟩ | ⟨d, -, hd, -, rfl⟩ | rfl⟩ := command_next hi ht
  · exact inputEnd_inv hf hs (hcap hr)
  · exact evparseEnd_inv hs hd
  · exact endCmdErr_inv h

/-! ### The steps inside a walk -/

theorem walkWf_stuffing {s : State} {sc : Scan} (hw : s.walk = .stuffing sc) : walkWf s = true ↔
    sc.i ≤ sc.buf.length ∧ sc.buf.length ≤ Config.BUF_CAP ∧ sc.out.length ≤ 2 * sc.i := by
  simp [walkWf, hw, and_assoc]

theorem walkWf_unstuffing {s : State} {sc : Scan} (hw : s.walk = .unstuffing sc) : walkWf s = true ↔
    sc.i ≤ sc.buf.length ∧ sc.buf.length ≤ Config.BUF_CAP ∧ sc.out.length ≤ sc.i := by
  simp [walkWf, hw, and_assoc]

theorem walkWf_records {s : State} {P : List Byte} (hw : s.walk = .records P) : walkWf s = true ↔
    s.off ≤ P.length ∧ P.length ≤ Config.BUF_CAP := by simp [walkWf, hw]

theorem walkWf_entries {s : State} {d : List Byte} {p : Nat} {es : List EventEntry} (hw : s.walk = .entries d p es) :
    walkWf s = true ↔ p ≤ d.length ∧ d.length ≤ 255 ∧ EntriesWf es := by
  simp [walkWf, hw, EntriesWf, and_assoc]

theorem stuffing_inv {s t : State} {sc : Scan} {i : Instr} (h : Inv s) (hw : s.walk = .stuffing sc)
    (hd : decode .stuffIn (sc.buf.drop sc.i) = .ok i) (ht : exec i s = .next t) : Inv t := by
  obtain ⟨hr, hst⟩ := h.running (by simp [hw])
  obtain ⟨-, hcap, hout⟩ := (walkWf_stuffing hw).1 h.walk
  obtain ⟨out, hrule, he⟩ := exec_stuffSymbol (decode_ok hd).2.1
  obtain ⟨sc', hw', rfl⟩ := stuffStep_next (he s ▸ ht)
  obtain rfl : sc = sc' := by rw [hw] at hw'; cases hw'; rfl
  have hlen := stuffRule_length_le hrule
  refine Running.inv_walking (s := setWalk (.stuffing (sc.emit out 1)) s) hr hst nofun ((walkWf_stuffing rfl).2 ?_)
  refine ⟨lt_of_decode_drop hd, hcap, ?_⟩
  simp only [Scan.emit, List.length_append]; omega

theorem unstuffing_inv {s t : State} {sc : Scan} {i : Instr} (h : Inv s) (hw : s.walk = .unstuffing sc)
    (hd : decode .unstuffIn (sc.buf.drop sc.i) = .ok i) (ht : exec i s = .next t) : Inv t := by
  obtain ⟨hr, hst⟩ := h.running (by simp [hw])
  obtain ⟨hin, hcap, hout⟩ := (walkWf_unstuffing hw).1 h.walk
  obtain ⟨sym, hrule, he⟩ := exec_unstuffSymbol (decode_ok hd).2.1
  obtain ⟨sc', hw', hsym⟩ := unstuffStep_next (he s ▸ ht)
  obtain rfl : sc = sc' := by rw [hw] at hw'; cases hw'; rfl
  rcases hsym with ⟨out, w, hs, rfl⟩ | ⟨e, hs, rfl⟩
  · obtain ⟨ho, hlen⟩ := unstuffRule_emit hd (hs ▸ hrule sc.i)
    rw [List.length_drop] at hlen
    refine Running.inv_walking (s := setWalk (.unstuffing (sc.emit out w)) s) hr hst nofun
      ((walkWf_unstuffing rfl).2 ?_)
    simp only [Scan.emit, List.length_append]; omega
  · exact hr.raiseFatal (unstuffRule_reason (hs ▸ hrule sc.i))

theorem records_inv {s t : State} {P : List Byte} {i : Instr} (h : Inv s) (hw : s.walk = .records P)
    (hd : decode .record (P.drop s.off) = .ok i) (ht : exec i s = .next t) : Inv t := by
  obtain ⟨hr, hst⟩ := h.running (by simp [hw])
  obtain ⟨-, hcap⟩ := (walkWf_records hw).1 h.walk
  obtain ⟨rule, hrule, he⟩ := exec_record (decode_ok hd).2.1
  obtain ⟨P', hw', rfl⟩ := recordStep_next (he s ▸ ht)
  obtain rfl : P = P' := by rw [hw] at hw'; cases hw'; rfl
  have hadv : Advance P (parseCtx s) (rule P (parseCtx s)) := recordRule_advance_le hrule (lt_of_decode_drop hd)
  have hset := hr.setParse (hadv.sound hcap hr.parseCtx_sound)
  unfold afterRecord
  split
  · exact hset.finishOk
  · have hw'' : (setParse (rule P (parseCtx s)) s).walk = .records P := hw
    exact hset.inv_walking hst (by simp [hw]) ((walkWf_records hw'').2 ⟨hadv.inside, hcap⟩)

theorem entries_inv {s t : State} {d : List Byte} {p : Nat} {es : List EventEntry} {i : Instr} (h : Inv s)
    (hw : s.walk = .entries d p es) (hd : decode .entry (d.drop p) = .ok i) (ht : exec i s = .next t) : Inv t := by
  obtain ⟨hr, hst⟩ := h.running (by simp [hw])
  obtain ⟨-, hcap, hes⟩ := (walkWf_entries hw).1 h.walk
  obtain ⟨rule, hrule, he⟩ := exec_entry (decode_ok hd).2.1
  obtain ⟨d', p', es', hw', rfl⟩ := entryStep_next (he s ▸ ht)
  obtain ⟨rfl, rfl, rfl⟩ : d = d' ∧ p = p' ∧ es = es' := by rw [hw] at hw'; cases hw'; exact ⟨rfl, rfl, rfl⟩
  have hadv : EntryAdvance d (entryCtx p es s) (rule d (entryCtx p es s)) :=
    entryRule_advance hrule hcap (lt_of_decode_drop hd)
  have hes' := hadv.entries hes
  have hq := hadv.queues hr.queues
  unfold afterEntry
  split
  · exact hr.finishEvparse hes' hq
  · exact Running.inv_walking (s := setWalk _ _) (hr.setAnomalies hq) hst nofun
      ((walkWf_entries rfl).2 ⟨hadv.inside, hcap, hes'⟩)

/-- The end of the input: a walk's command ends with its results, and without a walk the CORE waits (log 9). -/
theorem atEnd_inv {s : State} (h : Inv s) : Inv (atEnd s) := by
  have hcap : Config.BUF_CAP = 65535 := rfl
  unfold atEnd
  split
  · exact h
  · next sc hw =>
    obtain ⟨hin, hlen, hout⟩ := (walkWf_stuffing hw).1 h.walk
    exact ((h.running (by simp [hw])).1.setObuf (by omega)).finishOk
  · next sc hw =>
    obtain ⟨hin, hlen, hout⟩ := (walkWf_unstuffing hw).1 h.walk
    exact ((h.running (by simp [hw])).1.setObuf (by omega)).finishOk
  · next P hw => exact (h.running (by simp [hw])).1.finishOk
  · next d p es hw =>
    obtain ⟨-, -, hes⟩ := (walkWf_entries hw).1 h.walk
    have hr := (h.running (by simp [hw])).1
    exact hr.finishEvparse hes hr.queues

/-- Settles O8: a step without a walk runs a command or waits, a step inside a walk runs a symbol of that walk or ends
it. -/
theorem stepKeepsTheInvariant : Obligations.StepKeepsTheInvariant := by
  intro s t h hstep
  rcases step_cases s with ⟨i, hd, -, hsp, hs⟩ | ⟨-, hs⟩
  · rw [hs] at hstep
    cases hw : s.walk with
    | idle =>
      have hi : i.isCommand = true := by simp [Instr.isCommand, hsp, fetchBytes, hw]
      exact command_inv h.ibuf hi hstep
    | stuffing sc => simp only [fetchBytes, hw] at hd; exact stuffing_inv h hw hd hstep
    | unstuffing sc => simp only [fetchBytes, hw] at hd; exact unstuffing_inv h hw hd hstep
    | records P => simp only [fetchBytes, hw] at hd; exact records_inv h hw hd hstep
    | entries d p es => simp only [fetchBytes, hw] at hd; exact entries_inv h hw hd hstep
  · rw [hs] at hstep
    cases hstep
    exact atEnd_inv h

/-! ### Reset and the host -/

/-- Settles O7: nothing is set after reset. -/
theorem resetHasTheInvariant : Obligations.ResetHasTheInvariant := inv_cleared rfl rfl rfl rfl (.inl ⟨rfl, rfl⟩)

/-- The write of CMD starts a command, which is then pending (R60, log 9). -/
theorem writeCmd_inv {s : State} (code : Byte) (h : Memory.wf s.ibuf = true) : Inv (writeCmd code s) :=
  inv_cleared h rfl rfl rfl (.inr (.inl ⟨rfl, rfl⟩))

/-- The invariant says nothing of the configuration, the resolver and ILEN, and of IBUF only its form. -/
theorem Inv.with_settings {s : State} (h : Inv s) {ibuf : List Host.Cell} (hm : Memory.wf ibuf = true) (rounds crcInit key
    devidIn ilen keyTable keyDefault) :
    Inv { s with
      ibuf := ibuf, rounds := rounds, crcInit := crcInit, key := key, devidIn := devidIn, ilen := ilen,
      keyTable := keyTable, keyDefault := keyDefault } :=
  { h with ibuf := hm, walk := h.walk }

theorem hostStore_inv {w : HostWrite} {s t : State} (h : Inv s) (ht : hostStore w s = .next t) : Inv t := by
  cases w with
  | rounds v => cases ht; exact h.with_settings h.ibuf v _ _ _ _ _ _
  | crcInit v => cases ht; exact h.with_settings h.ibuf _ v _ _ _ _ _
  | keyByte i v => cases ht; exact h.with_settings h.ibuf _ _ (s.key.set i v) _ _ _ _
  | devidIn v => cases ht; exact h.with_settings h.ibuf _ _ _ v _ _ _
  | ilen v => cases ht; exact h.with_settings h.ibuf _ _ _ _ v _ _
  | resolver table dflt => cases ht; exact h.with_settings h.ibuf _ _ _ _ _ table dflt
  | cmd code => cases ht; exact writeCmd_inv code h.ibuf
  | reset => cases ht; exact Inv.with_settings resetHasTheInvariant rfl _ _ _ _ _ s.keyTable s.keyDefault
  | ibufByte a v =>
    by_cases ha : a < Config.BUF_CAP
    · rw [hostStore_ibufByte ha] at ht
      cases ht
      exact h.with_settings (memWrite_wf v h.ibuf ha) _ _ _ _ _ _ _
    · rw [hostStore_ibufByte_outside (by omega)] at ht; cases ht
  | input bs =>
    by_cases hl : bs.length ≤ Config.BUF_CAP
    · rw [hostStore_input hl] at ht
      cases ht
      exact h.with_settings (memWriteN_wf h.ibuf (by omega)) _ _ _ _ (BitVec.ofNat 16 bs.length) _ _
    · rw [hostStore_input_tooLong (by omega)] at ht; cases ht

/-- Settles O9: the host's port stores a write or resets, and both keep the invariant. -/
theorem hostWritesKeepTheInvariant : Obligations.HostWritesKeepTheInvariant :=
  fun _ _ _ h ht => hostStore_inv h (hostAct_next ht).2

end Sys2Proof.Machine
end

section
/-! SUPPORT. A walk run symbol by symbol and its command (20_memory.md R46; log 1, 2): `walkEnd` is the state a walk's
command ends in, every step of the walk keeps it, and every step ends the walk or reads bytes of the walked buffer. -/

namespace Sys2Proof.Machine

open Sys2Proof.Claims

/-- A sequence read from index `n` on is at its end, or opens an instruction of its space. -/
theorem decode_drop_cases (sp : Space) (bs : List Byte) (n : Nat) :
    bs.length ≤ n ∨ ∃ i, decode sp (bs.drop n) = .ok i ∧ i.space = sp := by
  cases h : bs.drop n with
  | nil => exact .inl (List.drop_eq_nil_iff.1 h)
  | cons b rest =>
    obtain ⟨i, hi, -, hs⟩ := decode_found sp b rest
    exact .inr ⟨i, hi, hs⟩

/-! ### `stuff` and `unstuff`, one symbol -/

/-- `stuff` on a sequence that opens with a given symbol (R120). -/
theorem stuff_symbol {bs out : List Byte} {i : Instr} (hd : decode .stuffIn bs = .ok i)
    (hr : stuffRule i = some out) : stuff bs = out ++ stuff (bs.drop 1) := by
  cases bs with
  | nil => cases hd
  | cons b rest =>
    have hb : stuffByte b = out := by
      change decode .stuffIn [b] = .ok i at hd
      simp only [stuffByte, hd, hr, Option.getD_some]
    rw [stuff_cons, hb, List.drop_one, List.tail_cons]

/-- A symbol of `unstuff` that appends takes at least one byte (R122). -/
theorem unstuffRule_width_pos {i : Instr} {n w : Nat} {out : List Byte}
    (h : unstuffRule i n = some (.emit out w)) : 0 < w := by
  cases i <;> cases h <;> decide

/-- `unstuff` at a symbol that appends (R122). -/
theorem unstuffFrom_emit {fuel i w : Nat} {bs out : List Byte} {ins : Instr} (hd : decode .unstuffIn bs = .ok ins)
    (hr : unstuffRule ins i = some (.emit out w)) :
    unstuffFrom (fuel + 1) bs i = (unstuffFrom fuel (bs.drop w) (i + w)).map (out ++ ·) := by
  simp only [unstuffFrom, hd, hr]
  cases unstuffFrom fuel (bs.drop w) (i + w) <;> rfl

/-- `unstuff` at a symbol that is an error (R122). -/
theorem unstuffFrom_error {fuel i : Nat} {bs : List Byte} {ins : Instr} {e : FatalError}
    (hd : decode .unstuffIn bs = .ok ins) (hr : unstuffRule ins i = some (.bad e)) :
    unstuffFrom (fuel + 1) bs i = .error e := by
  simp only [unstuffFrom, hd, hr]

theorem unstuffFrom_nil (fuel i : Nat) : unstuffFrom fuel [] i = .ok [] := by cases fuel <;> rfl

/-- Fuel for every byte is enough fuel for `unstuff`. -/
theorem unstuffFrom_succ {fuel i : Nat} {bs : List Byte} (h : bs.length ≤ fuel) :
    unstuffFrom (fuel + 1) bs i = unstuffFrom fuel bs i := by
  induction fuel generalizing bs i with
  | zero => rw [List.length_eq_zero_iff.1 (Nat.le_zero.1 h), unstuffFrom_nil, unstuffFrom_nil]
  | succ fuel ih =>
    rcases decode_drop_cases .unstuffIn bs 0 with hnil | ⟨ins, hd, hsp⟩
    · rw [List.length_eq_zero_iff.1 (Nat.le_zero.1 hnil), unstuffFrom_nil, unstuffFrom_nil]
    · rw [List.drop_zero] at hd
      obtain ⟨sym, hr, -⟩ := exec_unstuffSymbol hsp
      cases hs : sym i with
      | bad e => rw [unstuffFrom_error hd (hs ▸ hr i), unstuffFrom_error hd (hs ▸ hr i)]
      | emit out w =>
        have hw := unstuffRule_width_pos (hs ▸ hr i)
        rw [unstuffFrom_emit hd (hs ▸ hr i), unstuffFrom_emit hd (hs ▸ hr i),
          ih (by rw [List.length_drop]; omega)]

/-! ### The loops of PARSE and EVPARSE, one turn -/

/-- A record stops the payload walk or moves OFF forward (R160, R161). -/
theorem recordRule_stops_or_reads {i : Instr} {rule : List Byte → ParseCtx → ParseCtx}
    (hr : recordRule Config.params i = some rule) {P : List Byte} {c : ParseCtx} (h : c.off < P.length) :
    (rule P c).ended = true ∨ c.off < (rule P c).off := by
  by_cases hi : i = .pad
  · subst hi; cases hr; exact .inl rfl
  · exact .inr (recordRule_advance hr hi h).forward

/-- Fuel for every byte left is enough fuel for the payload loop. -/
theorem parseLoop_succ {fuel : Nat} {P : List Byte} {c : ParseCtx} (h : P.length - c.off ≤ fuel) :
    parseLoop Config.params (fuel + 1) P c = parseLoop Config.params fuel P c := by
  induction fuel generalizing c with
  | zero => rw [parseLoop_stopped (.inr (by omega)), parseLoop_stopped (.inr (by omega))]
  | succ fuel ih =>
    cases he : c.ended with
    | true => rw [parseLoop_stopped (.inl he), parseLoop_stopped (.inl he)]
    | false =>
      rcases decode_drop_cases .record P c.off with hend | ⟨i, hd, hsp⟩
      · rw [parseLoop_stopped (.inr hend), parseLoop_stopped (.inr hend)]
      · obtain ⟨rule, hr, -⟩ := exec_record hsp
        have hlt := lt_of_decode_drop hd
        rw [parseLoop_turn he hd hr, parseLoop_turn he hd hr]
        rcases recordRule_stops_or_reads hr hlt with hstop | hread
        · rw [parseLoop_stopped (.inl hstop), parseLoop_stopped (.inl hstop)]
        · exact ih (by omega)

/-- An entry moves the cursor past its type id (R202, R203, R204). -/
theorem readEntry_reads (t : Byte) (len : Option Config.EvtLen) (d : List Byte) (c : EntryCtx) :
    c.p < (readEntry t len d c).p := by
  cases len with
  | none => exact Nat.lt_succ_self _
  | some l =>
    rcases Nat.lt_or_ge d.length (c.p + 1 + l.toNat) with hcut | hall
    · rw [readEntry_cut hcut]; exact Nat.lt_succ_self _
    · rw [readEntry_value hall]; exact Nat.lt_add_right _ (Nat.lt_succ_self _)

theorem entryRule_reads {i : Instr} {rule : List Byte → EntryCtx → EntryCtx}
    (hr : entryRule Config.params i = some rule) (d : List Byte) (c : EntryCtx) : c.p < (rule d c).p := by
  cases i <;> cases hr <;> exact readEntry_reads _ _ d c

/-- Fuel for every byte left is enough fuel for the entry loop. -/
theorem entryLoop_succ {fuel : Nat} {d : List Byte} {c : EntryCtx} (h : d.length - c.p ≤ fuel) :
    entryLoop Config.params (fuel + 1) d c = entryLoop Config.params fuel d c := by
  induction fuel generalizing c with
  | zero => rw [entryLoop_stopped (.inr (by omega)), entryLoop_stopped (.inr (by omega))]
  | succ fuel ih =>
    cases he : c.ended with
    | true => rw [entryLoop_stopped (.inl he), entryLoop_stopped (.inl he)]
    | false =>
      rcases decode_drop_cases .entry d c.p with hend | ⟨i, hd, hsp⟩
      · rw [entryLoop_stopped (.inr hend), entryLoop_stopped (.inr hend)]
      · obtain ⟨rule, hr, -⟩ := exec_entry hsp
        have hlt := lt_of_decode_drop hd
        have hread := entryRule_reads hr d c
        rw [entryLoop_turn he hd hr, entryLoop_turn he hd hr, ih (by omega)]

/-! ### The end of a walk's command -/

/-- The end of UNSTUFF where the scan has appended `done` and answers `rest` for the bytes left (R123). -/
def scanEnd (done : List Byte) (rest : Except FatalError (List Byte)) (s : State) : State :=
  match rest with
  | .error e => raiseFatal e s
  | .ok more => finishOk (setObuf (done ++ more) s)

@[simp] theorem scanEnd_map (done out : List Byte) (rest : Except FatalError (List Byte)) (s : State) :
    scanEnd done (rest.map (out ++ ·)) s = scanEnd (done ++ out) rest s := by
  cases rest with
  | error e => rfl
  | ok more => simp only [scanEnd, Except.map, List.append_assoc]

@[simp] theorem scanEnd_setWalk (done : List Byte) (rest : Except FatalError (List Byte)) (w : Walk) (s : State) :
    scanEnd done rest (setWalk w s) = scanEnd done rest s := by cases rest <;> rfl

/-- UNSTUFF ends as its scan from the first byte does. -/
theorem scanEnd_unstuff (bs : List Byte) (s : State) : scanEnd [] (unstuff bs) s = unstuffEnd bs s := by
  unfold unstuffEnd
  cases unstuff bs <;> rfl

/-- The state the command of the walk in `s` ends in: its functions run on the bytes left. The loops get the fuel the
commands give them. -/
def walkEnd (s : State) : State :=
  match s.walk with
  | .idle => s
  | .stuffing sc => finishOk (setObuf (sc.out ++ stuff (sc.buf.drop sc.i)) s)
  | .unstuffing sc => scanEnd sc.out (unstuffFrom sc.buf.length (sc.buf.drop sc.i) sc.i) s
  | .records P => finishOk (setParse (parseLoop Config.params (P.length + 1) P (parseCtx s)) s)
  | .entries d p es => finishEvparse d.length (entryLoop Config.params (d.length + 1) d (entryCtx p es s)) s

/-- The number of bytes the walk has not read. -/
def bytesLeft (s : State) : Nat := (fetchBytes s).2.length

section
variable {s : State}

theorem walkEnd_idle (hw : s.walk = .idle) : walkEnd s = s := by simp only [walkEnd, hw]

theorem walkEnd_stuffing {sc : Scan} (hw : s.walk = .stuffing sc) :
    walkEnd s = finishOk (setObuf (sc.out ++ stuff (sc.buf.drop sc.i)) s) := by simp only [walkEnd, hw]

theorem walkEnd_unstuffing {sc : Scan} (hw : s.walk = .unstuffing sc) :
    walkEnd s = scanEnd sc.out (unstuffFrom sc.buf.length (sc.buf.drop sc.i) sc.i) s := by simp only [walkEnd, hw]

theorem walkEnd_records {P : List Byte} (hw : s.walk = .records P) :
    walkEnd s = finishOk (setParse (parseLoop Config.params (P.length + 1) P (parseCtx s)) s) := by
  simp only [walkEnd, hw]

theorem walkEnd_entries {d : List Byte} {p : Nat} {es : List EventEntry} (hw : s.walk = .entries d p es) :
    walkEnd s = finishEvparse d.length (entryLoop Config.params (d.length + 1) d (entryCtx p es s)) s := by
  simp only [walkEnd, hw]

theorem bytesLeft_stuffing {sc : Scan} (hw : s.walk = .stuffing sc) : bytesLeft s = sc.buf.length - sc.i := by
  simp only [bytesLeft, fetchBytes, hw, List.length_drop]

theorem bytesLeft_unstuffing {sc : Scan} (hw : s.walk = .unstuffing sc) : bytesLeft s = sc.buf.length - sc.i := by
  simp only [bytesLeft, fetchBytes, hw, List.length_drop]

theorem bytesLeft_records {P : List Byte} (hw : s.walk = .records P) : bytesLeft s = P.length - s.off := by
  simp only [bytesLeft, fetchBytes, hw, List.length_drop]

theorem bytesLeft_entries {d : List Byte} {p : Nat} {es : List EventEntry} (hw : s.walk = .entries d p es) :
    bytesLeft s = d.length - p := by simp only [bytesLeft, fetchBytes, hw, List.length_drop]

/-! ### One step of a walk -/

/-- `s'` is one step of a walk on from `s`: its command ends where it would have ended from `s`, and the walk has ended
or has read bytes. -/
structure WalkTurn (s s' : State) : Prop where
  pending : s'.cmdPending = s.cmdPending
  ends : walkEnd s' = walkEnd s
  reads : s'.walk = .idle ∨ bytesLeft s' < bytesLeft s

/-- A step to the end of the walk's command. -/
theorem WalkTurn.of_end {s' : State} (hp : s'.cmdPending = s.cmdPending) (hw : s'.walk = .idle)
    (he : s' = walkEnd s) : WalkTurn s s' := ⟨hp, (walkEnd_idle hw).trans he, .inl hw⟩

theorem stuffing_turn {sc : Scan} {i : Instr} (hw : s.walk = .stuffing sc)
    (hd : decode .stuffIn (sc.buf.drop sc.i) = .ok i) : ∃ s', exec i s = .next s' ∧ WalkTurn s s' := by
  obtain ⟨-, hsp, -⟩ := decode_ok hd
  obtain ⟨out, hr, he⟩ := exec_stuffSymbol hsp
  have hlt := lt_of_decode_drop hd
  refine ⟨setWalk (.stuffing (sc.emit out 1)) s, by rw [he, stuffStep, hw], rfl, ?_, .inr ?_⟩
  · rw [walkEnd_stuffing hw, stuff_symbol hd hr, List.drop_drop, ← List.append_assoc]; rfl
  · rw [bytesLeft_stuffing hw, bytesLeft_stuffing rfl]
    simp only [Scan.emit]; omega

theorem unstuffing_turn {sc : Scan} {i : Instr} (hw : s.walk = .unstuffing sc)
    (hd : decode .unstuffIn (sc.buf.drop sc.i) = .ok i) : ∃ s', exec i s = .next s' ∧ WalkTurn s s' := by
  obtain ⟨-, hsp, -⟩ := decode_ok hd
  obtain ⟨sym, hr, he⟩ := exec_unstuffSymbol hsp
  have hlt := lt_of_decode_drop hd
  obtain ⟨fuel, hfuel⟩ : ∃ fuel, sc.buf.length = fuel + 1 := ⟨sc.buf.length - 1, by omega⟩
  cases hs : sym sc.i with
  | bad e =>
    refine ⟨raiseFatal e s, by simp only [he, unstuffStep, hw, hs], .of_end rfl rfl ?_⟩
    rw [walkEnd_unstuffing hw, hfuel, unstuffFrom_error hd (hs ▸ hr sc.i)]; rfl
  | emit out w =>
    have hpos := unstuffRule_width_pos (hs ▸ hr sc.i)
    refine ⟨setWalk (.unstuffing (sc.emit out w)) s, by simp only [he, unstuffStep, hw, hs], rfl, ?_, .inr ?_⟩
    · have hleft : (sc.buf.drop (sc.i + w)).length ≤ fuel := by rw [List.length_drop]; omega
      rw [walkEnd_unstuffing hw, walkEnd_unstuffing rfl, scanEnd_setWalk]
      simp only [Scan.emit]
      rw [hfuel, unstuffFrom_emit hd (hs ▸ hr sc.i), scanEnd_map, List.drop_drop, unstuffFrom_succ hleft]
    · rw [bytesLeft_unstuffing hw, bytesLeft_unstuffing rfl]
      simp only [Scan.emit]; omega

theorem records_turn {P : List Byte} {i : Instr} (hw : s.walk = .records P)
    (hd : decode .record (P.drop s.off) = .ok i) : ∃ s', exec i s = .next s' ∧ WalkTurn s s' := by
  obtain ⟨-, hsp, -⟩ := decode_ok hd
  obtain ⟨rule, hr, he⟩ := exec_record hsp
  have hlt := lt_of_decode_drop hd
  refine ⟨afterRecord (rule P (parseCtx s)) s, by rw [he, recordStep, hw], ?_⟩
  have hend : walkEnd s = finishOk (setParse (parseLoop Config.params P.length P (rule P (parseCtx s))) s) := by
    rw [walkEnd_records hw, parseLoop_turn rfl hd hr]
  have hstop := recordRule_stops_or_reads hr (c := parseCtx s) hlt
  generalize rule P (parseCtx s) = c at hend hstop
  cases hc : c.ended with
  | true =>
    rw [afterRecord_ended s hc]
    refine .of_end rfl rfl ?_
    rw [hend, parseLoop_stopped (.inl hc)]
  | false =>
    have hread : s.off < c.off := hstop.resolve_left (by simp [hc])
    have hctx : parseCtx (setParse c s) = c := by cases c; cases hc; rfl
    have hw' : (setParse c s).walk = .records P := hw
    rw [afterRecord_going s hc]
    refine ⟨rfl, ?_, .inr ?_⟩
    · rw [hend, walkEnd_records hw', hctx, parseLoop_succ (Nat.sub_le _ _)]; rfl
    · rw [bytesLeft_records hw, bytesLeft_records hw', setParse_off]; omega

theorem entries_turn {d : List Byte} {p : Nat} {es : List EventEntry} {i : Instr} (hw : s.walk = .entries d p es)
    (hd : decode .entry (d.drop p) = .ok i) : ∃ s', exec i s = .next s' ∧ WalkTurn s s' := by
  obtain ⟨-, hsp, -⟩ := decode_ok hd
  obtain ⟨rule, hr, he⟩ := exec_entry hsp
  have hlt := lt_of_decode_drop hd
  refine ⟨afterEntry d (rule d (entryCtx p es s)) s, by rw [he, entryStep, hw], ?_⟩
  have hend : walkEnd s =
      finishEvparse d.length (entryLoop Config.params d.length d (rule d (entryCtx p es s))) s := by
    rw [walkEnd_entries hw, entryLoop_turn rfl hd hr]
  have hread : p < (rule d (entryCtx p es s)).p := entryRule_reads hr d (entryCtx p es s)
  generalize rule d (entryCtx p es s) = c at hend hread
  cases hc : c.ended with
  | true =>
    rw [afterEntry_ended s hc]
    refine .of_end rfl rfl ?_
    rw [hend, entryLoop_stopped (.inl hc)]
  | false =>
    rw [afterEntry_going s hc]
    have hctx : entryCtx c.p c.entries (setWalk (.entries d c.p c.entries) (setAnomalies c.warnq c.errq s)) = c := by
      cases c; cases hc; rfl
    refine ⟨rfl, ?_, .inr ?_⟩
    · rw [hend, walkEnd_entries rfl, hctx, entryLoop_succ (Nat.sub_le _ _)]; rfl
    · rw [bytesLeft_entries hw, bytesLeft_entries rfl]; omega

/-- At the end of its buffer a walk's command ends with what the walk has gathered. -/
theorem atEnd_eq_walkEnd (h : (fetchBytes s).2 = []) : atEnd s = walkEnd s := by
  cases hw : s.walk with
  | idle => rw [walkEnd_idle hw]; simp only [atEnd, hw]
  | stuffing sc =>
    simp only [fetchBytes, hw] at h
    simp only [walkEnd_stuffing hw, atEnd, hw, h, stuff_nil, List.append_nil]
  | unstuffing sc =>
    simp only [fetchBytes, hw] at h
    simp only [walkEnd_unstuffing hw, atEnd, hw, h, unstuffFrom_nil, scanEnd, List.append_nil]
  | records P =>
    simp only [fetchBytes, hw] at h
    rw [walkEnd_records hw, parseLoop_stopped (.inr (List.drop_eq_nil_iff.1 h))]
    simp only [atEnd, hw]; rfl
  | entries d p es =>
    simp only [fetchBytes, hw] at h
    rw [walkEnd_entries hw, entryLoop_stopped (.inr (List.drop_eq_nil_iff.1 h))]
    simp only [atEnd, hw]

theorem atEnd_walk (s : State) : (atEnd s).walk = .idle := by
  unfold atEnd
  split
  · assumption
  all_goals rfl

theorem atEnd_cmdPending (s : State) : (atEnd s).cmdPending = s.cmdPending := by unfold atEnd; split <;> rfl

/-- Every step inside a walk is a turn of it. -/
theorem step_turn (h : s.walk ≠ .idle) : ∃ s', step s = .next s' ∧ WalkTurn s s' := by
  rcases step_cases s with ⟨i, hd, -, -, hs⟩ | ⟨hnil, hs⟩
  · rw [hs]
    cases hw : s.walk with
    | idle => exact absurd hw h
    | stuffing sc => simp only [fetchBytes, hw] at hd; exact stuffing_turn hw hd
    | unstuffing sc => simp only [fetchBytes, hw] at hd; exact unstuffing_turn hw hd
    | records P => simp only [fetchBytes, hw] at hd; exact records_turn hw hd
    | entries d p es => simp only [fetchBytes, hw] at hd; exact entries_turn hw hd
  · exact ⟨atEnd s, hs, .of_end (atEnd_cmdPending s) (atEnd_walk s) (atEnd_eq_walkEnd hnil)⟩

/-- With no walk and no command pending the CORE waits (log 9). -/
theorem step_waits (hw : s.walk = .idle) (hp : s.cmdPending = false) : step s = .next s := by
  rcases step_cases s with ⟨i, hd, -⟩ | ⟨-, hs⟩
  · simp only [fetchBytes, hw, hp, Bool.false_eq_true, if_false] at hd; cases hd
  · rw [hs, atEnd, hw]

/-! ### A whole run -/

/-- One step more at the front of a run. -/
theorem coreRun_next {M : Host.Core} {s s' : M.State} (n : Nat) (h : M.step s = .next s') :
    M.run (n + 1) s = M.run n s' := by simp only [Host.Core.run, h]

theorem run_step {s' : State} (n : Nat) (h : step s = .next s') :
    Host.Core.run core (n + 1) s = Host.Core.run core n s' := coreRun_next n h

/-- With a step for each byte left and one more, a walk runs to the end of its command, and the CORE then waits. -/
theorem run_walk {n : Nat} (hp : s.cmdPending = false) (hn : s.walk = .idle ∨ bytesLeft s < n) :
    Host.Core.run core n s = .next (walkEnd s) := by
  induction n generalizing s with
  | zero => rw [walkEnd_idle (hn.resolve_right (Nat.not_lt_zero _))]; rfl
  | succ n ih =>
    by_cases hw : s.walk = .idle
    · rw [run_step n (step_waits hw hp), ih hp (.inl hw)]
    · obtain ⟨s', hs, ht⟩ := step_turn hw
      have hlt := hn.resolve_left hw
      rw [run_step n hs, ih (ht.pending.trans hp) (ht.reads.imp_right fun hr => by omega), ht.ends]

end

/-! ### The commands -/

/-- A walk over the whole operand whose command ends where `i` does reaches what `i` answers. -/
theorem run_walk_eq_exec {i : Instr} {f : List Byte → State → State} {s w : State} {bs : List Byte}
    (hs : Ready s bs) (hi : exec i s = runInput f s) (hp : w.cmdPending = false) (hb : bytesLeft w = bs.length)
    (he : walkEnd w = f bs (startCommand s)) : Host.Core.run core (bs.length + 1) w = exec i s := by
  rw [hi, runInput_ok hs.rest hs.input, ← he]
  exact run_walk hp (.inr (by omega))

/-- Settles O57: a scan from its first byte ends where STUFF and UNSTUFF do. -/
theorem scanStepsReachTheCommand : Obligations.ScanStepsReachTheCommand := by
  refine fun s bs hs => ⟨run_walk_eq_exec hs (exec_inputEnd rfl s) rfl rfl rfl,
    run_walk_eq_exec hs (exec_inputEnd rfl s) rfl rfl ?_⟩
  rw [beginUnstuff, walkEnd_unstuffing rfl, scanEnd_setWalk]
  exact scanEnd_unstuff bs (startCommand s)

/-- Settles O58: a payload walk from OFF 0 and empty queues ends where PARSE does. -/
theorem recordStepsReachTheCommand : Obligations.RecordStepsReachTheCommand :=
  fun s _ hs => run_walk_eq_exec hs (exec_inputEnd rfl s) rfl rfl rfl

/-- Settles O59: an entry walk from the first byte and empty queues ends where EVPARSE does on an input it takes. -/
theorem entryStepsReachTheCommand : Obligations.EntryStepsReachTheCommand :=
  fun _ _ hs hl => run_walk_eq_exec (i := .evparse) hs (execEvparse_short hl) rfl rfl rfl

end Sys2Proof.Machine
end

section
/-! SUPPORT. Decoding reads back what encoding writes (30_encoding.md, opening; R61, R62, R64, R70; 42_framer.md R122;
45_event_parser.md R201): every well-formed instruction stands in the one row that covers its bytes. -/

namespace Sys2Proof.Laws.MatchesRow

/-- Every instruction is encoded in its row of the table. -/
theorem matchesRow (i : Instr) : Statement i := by
  cases i
  exacts [crc16, xteaEnc, xteaDec, stuff, unstuff, decode, parse, evparse, prep, frame, build, illegalCmd00_00,
    illegalCmd0C_0F _, illegalCmd10_1F _, illegalCmd20_3F _, illegalCmd40_7F _, illegalCmd80_FF _,
    configCommand, configResponse, archive, archiveAck, readCommand, readResponse, auth, telemetry, rtu800Extended10,
    rtu800Extended11, rtu800Extended12, rtu800Extended13, rtu800Extended14, unknown00_00, unknown05_05, unknown0F_0F,
    unknown10_1F _, unknown20_3F _, unknown40_7F _, unknown80_FF _, pad,
    stuffC0, stuffC2, stuffC4, stuffLit00_7F _, stuffLit80_BF _, stuffLitC1_C1, stuffLitC3_C3, stuffLitC5_C5,
    stuffLitC6_C7 _, stuffLitC8_CF _, stuffLitD0_DF _, stuffLitE0_FF _,
    unstuffLit00_7F _, unstuffLit80_BF _, unstuffLitC0_C3 _, unstuffLitC5_C5, unstuffLitC6_C7 _, unstuffLitC8_CF _,
    unstuffLitD0_DF _, unstuffLitE0_FF _, unstuffEscC1, unstuffEscC3, unstuffEscC4, unstuffBadEsc00_7F _,
    unstuffBadEsc80_BF _, unstuffBadEscC0_C0, unstuffBadEscC2_C2, unstuffBadEscC5_C5, unstuffBadEscC6_C7 _,
    unstuffBadEscC8_CF _, unstuffBadEscD0_DF _, unstuffBadEscE0_FF _, unstuffDangling,
    entryType0, entryType20, entryTypeOther01_01, entryTypeOther02_03 _, entryTypeOther04_07 _, entryTypeOther08_0F _,
    entryTypeOther10_13 _, entryTypeOther15_15, entryTypeOther16_17 _, entryTypeOther18_1F _, entryTypeOther20_3F _,
    entryTypeOther40_7F _, entryTypeOther80_FF _]

/-- The bytes of a well-formed instruction under the mask of its row give the row's match. -/
theorem word_and_mask {i : Instr} (hw : i.wf = true) {n pat mask : Nat} (hr : tableRow i = some (n, pat, mask)) :
    word (encode i) &&& mask = pat := by
  have h := matchesRow i
  simp only [Statement, hw, inRow, hr, Bool.not_true, Bool.false_or, Bool.and_eq_true, beq_iff_eq] at h
  exact h.2

end Sys2Proof.Laws.MatchesRow

namespace Sys2Proof

open Laws.MatchesRow (tableRow word word_and_mask)

/-! ### Lookups -/

/-- Where at most one element satisfies `p`, an element that does is the one found. -/
theorem find?_eq_of_unique {α : Type} {p : α → Bool} {l : List α} {a : α} (h : (l.filter p).length ≤ 1) (ha : a ∈ l)
    (hp : p a = true) : l.find? p = some a := by
  have hmem : a ∈ l.filter p := List.mem_filter.2 ⟨ha, hp⟩
  obtain ⟨c, hc⟩ := List.length_eq_one_iff.1 (le_antisymm h (List.length_pos_of_mem hmem))
  rw [hc, List.mem_singleton] at hmem
  rw [← List.head?_filter, hc, hmem, List.head?_cons]

/-- In rows that do not overlap, the lookup answers the row that covers the byte. -/
theorem lookup8_of_covers {rows : List Row8} (hd : disjoint8 rows) {r : Row8} (hr : r ∈ rows) {b : Byte}
    (hc : r.covers b = true) : lookup8 rows b = some (r.make b) := by
  rw [lookup8, find?_eq_of_unique (hd b) hr hc, Option.map_some]

/-- In rows that do not overlap, the lookup answers the row that covers the pair. -/
theorem lookup16_of_covers {rows : List Row16} (hd : disjoint16 rows) {r : Row16} (hr : r ∈ rows) {n : Byte}
    (hc : r.covers (Config.ESC ++ n) = true) : lookup16 rows n = some (r.make n) := by
  rw [lookup16, find?_eq_of_unique (hd n) hr hc, Option.map_some]

/-! ### The row of an instruction -/

/-- The rows of one byte of each space. -/
def byteRows : Space → List Row8
  | .cmd => cmdRows
  | .record => recordRows
  | .stuffIn => stuffRows
  | .unstuffIn => unstuffRows8
  | .entry => entryRows

theorem byteRows_disjoint (sp : Space) : disjoint8 (byteRows sp) := by
  cases sp
  exacts [cmdRows_disjoint, recordRows_disjoint, stuffRows_disjoint, unstuffRows8_disjoint, entryRows_disjoint]

/-- `i` is one byte, and its table row, as the decoder holds it, gives `i` back for that byte. -/
def HasByteRow (i : Instr) : Prop :=
  ∃ b, encode i = [b] ∧ ∃ r ∈ byteRows i.space, r.make b = i ∧ tableRow i = some (8, r.pat.toNat, r.mask.toNat)

/-- `i` is a pair that 0xC4 opens, and its table row, as the decoder holds it, gives `i` back for the second byte. -/
def HasPairRow (i : Instr) : Prop :=
  i.space = .unstuffIn ∧ ∃ n, encode i = [Config.ESC, n] ∧
    ∃ r ∈ unstuffRows16, r.make n = i ∧ tableRow i = some (16, r.pat.toNat, r.mask.toNat)

/-- The four ways an instruction is read: PAD and the dangling 0xC4 by what follows, every other one by its row. -/
theorem row_kinds (i : Instr) : i = .pad ∨ i = .unstuffDangling ∨ HasPairRow i ∨ HasByteRow i := by
  cases i
  case pad => exact .inl rfl
  case unstuffDangling => exact .inr (.inl rfl)
  case unstuffEscC1 | unstuffEscC3 | unstuffEscC4 | unstuffBadEsc00_7F | unstuffBadEsc80_BF | unstuffBadEscC0_C0 |
      unstuffBadEscC2_C2 | unstuffBadEscC5_C5 | unstuffBadEscC6_C7 | unstuffBadEscC8_CF | unstuffBadEscD0_DF |
      unstuffBadEscE0_FF =>
    refine .inr (.inr (.inl ⟨rfl, _, rfl, ?_⟩))
    simp only [unstuffRows16, List.exists_mem_cons_iff, reduceCtorEq, false_and, false_or, true_and]
    exact .inl rfl
  all_goals
    refine .inr (.inr (.inr ⟨_, rfl, ?_⟩))
    simp only [byteRows, Instr.space, cmdRows, recordRows, stuffRows, unstuffRows8, entryRows,
      List.exists_mem_cons_iff, reduceCtorEq, false_and, false_or, true_and]
    exact .inl rfl

/-- A one-byte instruction is what the lookup in its space answers for its byte. -/
theorem HasByteRow.lookup {i : Instr} (h : HasByteRow i) (hw : i.wf = true) :
    ∃ b, encode i = [b] ∧ lookup8 (byteRows i.space) b = some i := by
  obtain ⟨b, hb, r, hr, hm, ht⟩ := h
  have hword := word_and_mask hw ht
  have hc : r.covers b = true := by
    rw [Row8.covers, beq_iff_eq]
    exact BitVec.eq_of_toNat_eq (by simpa [hb, word] using hword)
  exact ⟨b, hb, by rw [lookup8_of_covers (byteRows_disjoint _) hr hc, hm]⟩

/-- A pair as one word, the first byte high. -/
theorem toNat_append_byte (a b : Byte) : (a ++ b).toNat = word [a, b] := by
  rw [BitVec.toNat_append, ← Nat.shiftLeft_add_eq_or_of_lt b.isLt, Nat.shiftLeft_eq]
  simp [word]

/-- A pair is what the lookup answers for its second byte. -/
theorem HasPairRow.lookup {i : Instr} (h : HasPairRow i) (hw : i.wf = true) :
    i.space = .unstuffIn ∧ ∃ n, encode i = [Config.ESC, n] ∧ lookup16 unstuffRows16 n = some i := by
  obtain ⟨hs, n, hn, r, hr, hm, ht⟩ := h
  have hword := word_and_mask hw ht
  have hc : r.covers (Config.ESC ++ n) = true := by
    rw [Row16.covers, beq_iff_eq]
    exact BitVec.eq_of_toNat_eq (by rw [BitVec.toNat_and, toNat_append_byte, ← hn, hword])
  exact ⟨hs, n, hn, by rw [lookup16_of_covers unstuffRows16_disjoint hr hc, hm]⟩

/-! ### The decoder, from the lookup of the first symbol -/

theorem decode_pair {n : Byte} {i : Instr} (h : lookup16 unstuffRows16 n = some i) (rest : List Byte) :
    decode .unstuffIn (Config.ESC :: n :: rest) = .ok i := by
  simp only [decode, beq_self_eq_true, if_true, h, orNoRow]

/-- A byte is read by its row, unless the padding test or an 0xC4 takes it first: only an id 0x00 can be padding, and
0xC4 alone has no row of one byte. -/
theorem decode_byte {sp : Space} {b : Byte} {i : Instr} (h : lookup8 (byteRows sp) b = some i) {rest : List Byte}
    (hf : i.fits rest = true) : decode sp (b :: rest) = .ok i := by
  cases sp with
  | cmd | stuffIn | entry =>
    simp only [byteRows] at h
    simp only [decode, h, orNoRow]
  | record =>
    simp only [byteRows] at h
    have hpad : ¬ (b == 0 && allZero rest) = true := by
      intro hz
      simp only [Bool.and_eq_true, beq_iff_eq] at hz
      obtain ⟨rfl, hrest⟩ := hz
      obtain rfl : Instr.unknown00_00 = i := Option.some.inj h
      simp [Instr.fits, hrest] at hf
    simp only [decode, hpad, h, orNoRow, Bool.false_eq_true, if_false]
  | unstuffIn =>
    simp only [byteRows] at h
    have hesc : b ≠ Config.ESC := by
      rintro rfl
      have h0 : lookup8 unstuffRows8 Config.ESC = none := by decide
      rw [h0] at h
      cases h
    simp only [decode, beq_iff_eq, hesc, if_false, h, orNoRow]

/-- Settles O1: by the row of the instruction; no other row covers its bytes. -/
theorem decodeReadsBackEncode : Obligations.DecodeReadsBackEncode := by
  intro i rest hw hf
  rcases row_kinds i with rfl | rfl | hp | hb
  · have hz : allZero rest = true := hf
    simp [decode, encode, Instr.space, hz]
  · obtain rfl : rest = [] := List.isEmpty_iff.1 hf
    rfl
  · obtain ⟨hs, n, hn, hl⟩ := hp.lookup hw
    rw [hs, hn]
    exact decode_pair hl rest
  · obtain ⟨b, hb, hl⟩ := hb.lookup hw
    rw [hb]
    exact decode_byte hl hf

end Sys2Proof
end

section
/-! SUPPORT. Instructions out of turn, illegal commands, and the symbols of a scan (30_encoding.md R62, R64;
42_framer.md R120, R122; log 2, 11). -/

namespace Sys2Proof.Machine

open Sys2Proof.Claims

/-! ### Instructions out of turn -/

/-- While another command runs every command is refused (R62, R278). -/
theorem exec_command_busy {i : Instr} {s : State} (hi : i.isCommand = true) (h : mayStart s = false) :
    exec i s = .refused .commandWhileBusy := by
  rcases command_kinds hi with ⟨f, hf⟩ | rfl | hill
  · rw [exec_inputEnd hf]; exact runCommand_busy _ h
  · change execEvparse s = _
    rw [execEvparse, runCommand_busy _ h]
  · rw [hill]; exact runCommand_busy _ h

section
variable {s : State}

theorem stuffStep_outside (out : List Byte) (h : .stuffIn ≠ (fetchBytes s).1) :
    stuffStep out s = .refused .outsideWalk := by
  unfold stuffStep
  split
  · next hw => exact absurd (by rw [fetchBytes, hw]) h
  · rfl

theorem unstuffStep_outside (sym : Nat → Symbol) (h : .unstuffIn ≠ (fetchBytes s).1) :
    unstuffStep sym s = .refused .outsideWalk := by
  unfold unstuffStep
  split
  · next hw => exact absurd (by rw [fetchBytes, hw]) h
  · rfl

theorem recordStep_outside (rule : List Byte → ParseCtx → ParseCtx) (h : .record ≠ (fetchBytes s).1) :
    recordStep rule s = .refused .outsideWalk := by
  unfold recordStep
  split
  · next hw => exact absurd (by rw [fetchBytes, hw]) h
  · rfl

theorem entryStep_outside (rule : List Byte → EntryCtx → EntryCtx) (h : .entry ≠ (fetchBytes s).1) :
    entryStep rule s = .refused .outsideWalk := by
  unfold entryStep
  split
  · next hw => exact absurd (by rw [fetchBytes, hw]) h
  · rfl

/-- A symbol is refused where the sequencer reads another space than the symbol's (log 2). -/
theorem exec_symbol_outside {i : Instr} (hi : i.isCommand = false) (h : i.space ≠ (fetchBytes s).1) :
    exec i s = .refused .outsideWalk := by
  cases hs : i.space with
  | cmd => simp [Instr.isCommand, hs] at hi
  | stuffIn =>
    obtain ⟨out, -, he⟩ := exec_stuffSymbol hs
    rw [he, stuffStep_outside out (hs ▸ h)]
  | unstuffIn =>
    obtain ⟨sym, -, he⟩ := exec_unstuffSymbol hs
    rw [he, unstuffStep_outside sym (hs ▸ h)]
  | record =>
    obtain ⟨rule, -, he⟩ := exec_record hs
    rw [he, recordStep_outside rule (hs ▸ h)]
  | entry =>
    obtain ⟨rule, -, he⟩ := exec_entry hs
    rw [he, entryStep_outside rule (hs ▸ h)]

/-- With no walk the sequencer reads command codes, so every symbol is outside its walk. -/
theorem symbol_space_ne_of_idle {i : Instr} (hi : i.isCommand = false) (hw : s.walk = .idle) :
    i.space ≠ (fetchBytes s).1 := by
  simpa [Instr.isCommand, fetchBytes, hw] using hi

end

/-- Settles O13: a command has no start there, and a symbol no walk of its space. -/
theorem instructionsOutOfTurnAreRefused : Obligations.InstructionsOutOfTurnAreRefused :=
  fun _ _ => ⟨fun hi hb hp => exec_command_busy hi (mayStart_eq_false.2 ⟨hb, hp⟩),
    fun hi hw => exec_symbol_outside hi (symbol_space_ne_of_idle hi hw), exec_symbol_outside⟩

/-! ### Illegal commands -/

theorem inBlock_iff {lo hi b : Byte} : inBlock lo hi b = true ↔ lo.toNat ≤ b.toNat ∧ b.toNat ≤ hi.toNat := by
  simp [inBlock, BitVec.le_def]

/-- The blocks of illegal codes cover every value but 0x01 to 0x0B (R62). -/
theorem exists_illegalCommand {c : Byte} (h : c = 0 ∨ 0x0C ≤ c.toNat) :
    ∃ i ∈ illegalCommands c, i.wf = true ∧ i.space = .cmd ∧ encode i = [c] ∧ i.fits [] = true := by
  have hlt := c.isLt
  rcases h with rfl | h
  · exact ⟨.illegalCmd00_00, by simp [illegalCommands], rfl, rfl, rfl, rfl⟩
  · obtain h1 | h1 | h1 | h1 | h1 : c.toNat ≤ 0x0F ∨ (0x10 ≤ c.toNat ∧ c.toNat ≤ 0x1F) ∨
        (0x20 ≤ c.toNat ∧ c.toNat ≤ 0x3F) ∨ (0x40 ≤ c.toNat ∧ c.toNat ≤ 0x7F) ∨ 0x80 ≤ c.toNat := by omega
    · exact ⟨.illegalCmd0C_0F c, by simp [illegalCommands], inBlock_iff.2 ⟨h, h1⟩, rfl, rfl, rfl⟩
    · exact ⟨.illegalCmd10_1F c, by simp [illegalCommands], inBlock_iff.2 h1, rfl, rfl, rfl⟩
    · exact ⟨.illegalCmd20_3F c, by simp [illegalCommands], inBlock_iff.2 h1, rfl, rfl, rfl⟩
    · exact ⟨.illegalCmd40_7F c, by simp [illegalCommands], inBlock_iff.2 h1, rfl, rfl, rfl⟩
    · exact ⟨.illegalCmd80_FF c, by simp [illegalCommands], inBlock_iff.2 ⟨h1, Nat.le_of_lt_succ hlt⟩, rfl, rfl, rfl⟩

theorem exec_illegalCommands {x : Byte} {i : Instr} (h : i ∈ illegalCommands x) (s : State) :
    exec i s = illegalCommand s := by
  simp only [illegalCommands, List.mem_cons, List.not_mem_nil, or_false] at h
  rcases h with rfl | rfl | rfl | rfl | rfl | rfl <;> rfl

/-- Settles O15: the rows of the illegal codes are read back by `decodeReadsBackEncode`, and each of them starts and
ends in CMD_ERR. -/
theorem illegalCommandsSetCmdErr : Obligations.IllegalCommandsSetCmdErr := by
  refine ⟨fun c hc => ?_, fun x i s hi => ⟨fun hm => ?_, fun hm => ?_⟩, fun c s hb => ?_⟩
  · obtain ⟨i, hi, hw, hs, he, hf⟩ := exists_illegalCommand hc
    exact ⟨i, hi, by simpa only [hs, he, List.append_nil] using decodeReadsBackEncode i [] hw hf⟩
  · have ht : exec i s = .next (endCmdErr (startCommand s)) :=
      (exec_illegalCommands hi s).trans (illegalCommand_rest hm)
    refine ⟨⟨_, ht, kept_iff.2 rfl, rfl, rfl⟩, fun t h => ?_⟩
    cases ht.symm.trans h
    exact ⟨rfl, rfl⟩
  · rw [exec_illegalCommands hi]; exact runCommand_busy _ hm
  · exact hostAct_noTurn (by simp [hostTurn, hb]) nofun

/-! ### The symbols of a scan -/

theorem stuffStep_stuffing {s : State} {sc : Scan} (hw : s.walk = .stuffing sc) (out : List Byte) :
    stuffStep out s = .next (setWalk (.stuffing (sc.emit out 1)) s) := by simp only [stuffStep, hw]

theorem unstuffStep_emit {s : State} {sc : Scan} {sym : Nat → Symbol} {out : List Byte} {w : Nat}
    (hw : s.walk = .unstuffing sc) (hs : sym sc.i = .emit out w) :
    unstuffStep sym s = .next (setWalk (.unstuffing (sc.emit out w)) s) := by simp only [unstuffStep, hw, hs]

/-- The replacements listed are those of the rules (R64, R120). -/
theorem stuffRule_of_stuffSymbols (x : Byte) :
    ∀ r ∈ stuffSymbols x, r.1.space = .stuffIn ∧ stuffRule r.1 = some r.2 := by
  simp only [stuffSymbols, List.forall_mem_cons]
  refine ⟨?_, ?_, ?_, ?_, ?_, ?_, ?_, ?_, ?_, ?_, ?_, ?_, nofun⟩ <;> exact ⟨rfl, rfl⟩

/-- The bytes and widths listed are those of the rules (R64, R122, R125). -/
theorem unstuffRule_of_unstuffSymbols (x : Byte) :
    ∀ r ∈ unstuffSymbols x, r.1.space = .unstuffIn ∧ ∀ n, unstuffRule r.1 n = some (.emit [r.2.1] r.2.2) := by
  simp only [unstuffSymbols, List.forall_mem_cons]
  refine ⟨?_, ?_, ?_, ?_, ?_, ?_, ?_, ?_, ?_, ?_, ?_, nofun⟩ <;> exact ⟨rfl, fun _ => rfl⟩

/-- Settles O29: a stuffing symbol is the step of its rule, and the rule is the listed replacement. -/
theorem stuffSymbolsComplete : Obligations.StuffSymbolsComplete := by
  intro x r s sc hr hw
  obtain ⟨hs, hrule⟩ := stuffRule_of_stuffSymbols x r hr
  obtain ⟨out, hout, he⟩ := exec_stuffSymbol hs
  obtain rfl : r.2 = out := Option.some.inj (hrule.symm.trans hout)
  exact (he s).trans (stuffStep_stuffing hw r.2)

/-- Settles O30: an unstuffing symbol is the step of its rule, and the rule emits the listed byte. -/
theorem unstuffSymbolsComplete : Obligations.UnstuffSymbolsComplete := by
  intro x r s sc hr hw
  obtain ⟨hs, hrule⟩ := unstuffRule_of_unstuffSymbols x r hr
  obtain ⟨sym, hsym, he⟩ := exec_unstuffSymbol hs
  have hemit : sym sc.i = .emit [r.2.1] r.2.2 := Option.some.inj ((hsym sc.i).symm.trans (hrule sc.i))
  exact (he s).trans (unstuffStep_emit hw hemit)

end Sys2Proof.Machine
end

section
/-! SUPPORT. The Checksum unit (40_crc16.md R91, R92, R93): the checksum takes a message byte by byte and in pieces,
each of its rounds is one-to-one, and the command CRC16. -/

namespace Sys2Proof.Machine

open Sys2Proof.Claims

/-! ### The checksum -/

theorem crc16_append (xs ys : List Byte) (init : BitVec 16) : crc16 (xs ++ ys) init = crc16 ys (crc16 xs init) :=
  List.foldl_append

@[simp] theorem crc16_singleton (b : Byte) (init : BitVec 16) : crc16 [b] init = crcByte init b := rfl

/-- A round in R91's own words: bit 15 is the sign bit, and the polynomial is 0x1021. -/
theorem crcShift_eq_msb : crcShift = fun r => if r.msb then r <<< 1 ^^^ 0x1021#16 else r <<< 1 := rfl

theorem crcShifts_eq_iterate (n : Nat) (r : BitVec 16) : crcShifts n r = crcShift^[n] r := by
  induction n generalizing r with
  | zero => rfl
  | succ n ih => exact ih (crcShift r)

theorem crcByte_eq_iterate (r : BitVec 16) (b : Byte) : crcByte r b = crcShift^[8] (r ^^^ b.setWidth 16 <<< 8) :=
  crcShifts_eq_iterate 8 _

/-! ### Every round is one-to-one -/

/-- A round is the shift and an exclusive-or that only the bit shifted out decides. -/
theorem crcShift_eq_xor (r : BitVec 16) :
    crcShift r = (r <<< 1) ^^^ (if r.getLsbD 15 then Config.crcPoly else 0) := by
  unfold crcShift
  split <;> simp

/-- The polynomial is odd, so the bit that a round shifts out stands in bit 0 after it. -/
theorem crcShift_bit_zero (r : BitVec 16) : (crcShift r).getLsbD 0 = r.getLsbD 15 := by
  rw [crcShift_eq_xor]
  cases r.getLsbD 15 <;> simp [Config.crcPoly]

/-- Bit 0 tells whether the polynomial was added, and without it the other bits are those before the shift. -/
theorem crcShift_injective : Function.Injective crcShift := by
  intro r t h
  have htop : r.getLsbD 15 = t.getLsbD 15 := by rw [← crcShift_bit_zero, h, crcShift_bit_zero]
  have hshift : r <<< 1 = t <<< 1 := by
    rw [crcShift_eq_xor, crcShift_eq_xor, htop] at h
    exact (BitVec.xor_left_inj _).1 h
  refine BitVec.eq_of_getElem_eq fun i hi => ?_
  rcases Nat.eq_or_lt_of_le (Nat.le_of_lt_succ hi) with rfl | hlow
  · exact htop
  · have hbit := congrArg (·.getLsbD (i + 1)) hshift
    simpa [show i + 1 < 16 by omega] using hbit

theorem crcByte_injective_left (b : Byte) : Function.Injective (crcByte · b) := by
  intro r t h
  simp only [crcByte_eq_iterate] at h
  exact (BitVec.xor_left_inj _).1 (crcShift_injective.iterate 8 h)

theorem crcByte_injective_right (r : BitVec 16) : Function.Injective (crcByte r) := by
  intro b c h
  rw [crcByte_eq_iterate, crcByte_eq_iterate] at h
  have hx : b.setWidth 16 <<< 8 = c.setWidth 16 <<< 8 := (BitVec.xor_right_inj _).1 (crcShift_injective.iterate 8 h)
  bv_omega

/-- A message tells the start value from the checksum. -/
theorem crc16_injective_init (data : List Byte) : Function.Injective (crc16 data) := by
  induction data with
  | nil => exact Function.injective_id
  | cons b bs ih => exact ih.comp (crcByte_injective_left b)

/-- Settles O18: the differing byte sends the one register before it to two registers, and the rest of the message
keeps them apart. -/
theorem oneWrongByteChangesTheChecksum : Obligations.OneWrongByteChangesTheChecksum := by
  intro xs ys b c init hbc h
  simp only [crc16_append, crc16_singleton] at h
  exact hbc (crcByte_injective_right _ (crc16_injective_init ys h))

/-- Settles O17: a message's last byte is one `crcByte`, whose rounds are R91's. -/
theorem checksumIsBitSerial : Obligations.ChecksumIsBitSerial := by
  refine fun init => ⟨rfl, fun bs b => ?_, fun xs ys => crc16_append xs ys init⟩
  rw [crc16_append, crc16_singleton, crcByte_eq_iterate, crcShift_eq_msb]

/-! ### The command CRC16 -/

/-- The worked example of R92, round by round. -/
theorem crc16_workedExample : crc16 [0x31, 0x32, 0x33, 0x34, 0x35, 0x36, 0x37, 0x38, 0x39] 0xFFFF = 0x29B1 := by
  simp [crc16, crcByte, crcShifts, crcShift, Config.crcPoly]

/-- A command that reads its whole input ends as the end of that input shows. -/
theorem endsWith_of_inputEnd {i : Instr} {f : List Byte → State → State} {s : State} {bs : List Byte}
    {o : CommandView} (hi : inputEnd i = some f) (hs : Ready s bs) (hv : viewOf (f bs (startCommand s)) = o)
    (hw : (f bs (startCommand s)).walk = .idle) : EndsWith i s o :=
  ⟨_, (exec_inputEnd hi s).trans (runInput_ok hs.rest hs.input), kept_iff.2 (settings_inputEnd hi bs _), hv, hw⟩

/-- Settles O16: CRC16 is `crcEnd` on its input, and the checksum's laws are those of the fold. -/
theorem crc16Completes : Obligations.Crc16Completes :=
  ⟨decodeReadsBackEncode .crc16 [] rfl rfl, fun _ _ hs => endsWith_of_inputEnd rfl hs rfl rfl, fun _ => rfl,
    crc16_append, crc16_workedExample⟩

end Sys2Proof.Machine
end

section
/-! SUPPORT. The CipherEngine (41_xtea.md R101 to R109): its rounds in the rules' arithmetic, each the inverse of the
other, ECB block by block, and the commands XTEA_ENC and XTEA_DEC. -/

namespace Sys2Proof.Machine

open Sys2Proof.Claims

/-! ### Rounds -/

/-- The two bits `lo+1 : lo` of S are those that a shift and a mask select (R102). -/
theorem keyWordAt_eq_getD (k : Vector Word 4) (s : Word) (lo : Nat) :
    keyWordAt k s lo = k.toList.getD (s >>> lo &&& 3#32).toNat 0 := by
  have hmask : (s >>> lo &&& 3#32).toNat = (s.extractLsb' lo 2).toNat := by
    rw [BitVec.toNat_and, BitVec.extractLsb'_toNat, BitVec.toNat_ushiftRight]
    exact Nat.and_two_pow_sub_one_eq_mod _ 2
  have hlt : (s.extractLsb' lo 2).toNat < 4 := (s.extractLsb' lo 2).isLt
  rw [hmask, List.getD_eq_getElem _ _ (by simpa using hlt)]
  rfl

/-- A round of R104 in the rule's arithmetic. -/
theorem encRound_eq_encryptTurn : encRound = encryptTurn := by
  funext c
  simp only [encRound, encryptTurn, mixF, roundKeyLow, roundKeyHigh, keyWordAt_eq_getD, BitVec.ushiftRight_zero,
    Config.DELTA]
  rfl

/-- A round of R103 in the rule's arithmetic. -/
theorem decRound_eq_decryptTurn : decRound = decryptTurn := by
  funext c
  simp only [decRound, decryptTurn, mixF, roundKeyLow, roundKeyHigh, keyWordAt_eq_getD, BitVec.ushiftRight_zero,
    Config.DELTA]
  rfl

@[simp] theorem encRound_s (c : Cipher) : (encRound c).s = c.s + Config.DELTA := rfl
@[simp] theorem encRound_k (c : Cipher) : (encRound c).k = c.k := rfl
@[simp] theorem decRound_s (c : Cipher) : (decRound c).s = c.s - Config.DELTA := rfl
@[simp] theorem decRound_k (c : Cipher) : (decRound c).k = c.k := rfl

/-- Each half-round of R103 subtracts what a half-round of R104 added: the mix reads the other half of the block. -/
theorem decRound_encRound : Function.LeftInverse decRound encRound := by
  intro c
  simp only [encRound, decRound, roundKeyLow, roundKeyHigh, add_sub_cancel_right]

/-- And the other way round. -/
theorem encRound_decRound : Function.LeftInverse encRound decRound := by
  intro c
  simp only [encRound, decRound, roundKeyLow, roundKeyHigh, sub_add_cancel]

theorem repeatRounds_eq_iterate (step : Cipher → Cipher) (n : Nat) (c : Cipher) :
    repeatRounds step n c = step^[n] c := by
  induction n generalizing c with
  | zero => rfl
  | succ n ih => exact ih (step c)

/-- What `n` turns of R104's loop leave in S and K. -/
theorem encRound_iterate (n : Nat) (c : Cipher) :
    (encRound^[n] c).s = c.s + Config.DELTA * BitVec.ofNat 32 n ∧ (encRound^[n] c).k = c.k := by
  induction n with
  | zero => simp
  | succ n ih =>
    obtain ⟨hs, hk⟩ := ih
    rw [Function.iterate_succ_apply']
    refine ⟨?_, (encRound_k _).trans hk⟩
    rw [encRound_s, hs, BitVec.ofNat_add, mul_add, add_assoc, BitVec.mul_one]

/-- What `n` turns of R103's loop leave in S and K. -/
theorem decRound_iterate (n : Nat) (c : Cipher) :
    (decRound^[n] c).s = c.s - Config.DELTA * BitVec.ofNat 32 n ∧ (decRound^[n] c).k = c.k := by
  induction n with
  | zero => simp
  | succ n ih =>
    obtain ⟨hs, hk⟩ := ih
    rw [Function.iterate_succ_apply']
    refine ⟨?_, (decRound_k _).trans hk⟩
    rw [decRound_s, hs, BitVec.ofNat_add, mul_add, sub_sub, BitVec.mul_one]

/-! ### Blocks -/

theorem encryptBlock_eq_iterate (n : Nat) (c : Cipher) : encryptBlock n c = encRound^[n] { c with s := 0 } :=
  repeatRounds_eq_iterate _ _ _

theorem decryptBlock_eq_iterate (n : Nat) (c : Cipher) :
    decryptBlock n c = decRound^[n] { c with s := Config.DELTA * BitVec.ofNat 32 n } :=
  repeatRounds_eq_iterate _ _ _

theorem encryptBlock_s (n : Nat) (c : Cipher) : (encryptBlock n c).s = Config.DELTA * BitVec.ofNat 32 n := by
  rw [encryptBlock_eq_iterate, (encRound_iterate n _).1]
  exact BitVec.zero_add _

theorem decryptBlock_s (n : Nat) (c : Cipher) : (decryptBlock n c).s = 0 := by
  rw [decryptBlock_eq_iterate, (decRound_iterate n _).1]
  exact sub_self _

/-- A block function leaves the key words. -/
def KeepsK (blockFn : Cipher → Cipher) : Prop := ∀ c, (blockFn c).k = c.k

theorem encryptBlock_keepsK (n : Nat) : KeepsK (encryptBlock n) := fun c => by
  rw [encryptBlock_eq_iterate, (encRound_iterate n _).2]

theorem decryptBlock_keepsK (n : Nat) : KeepsK (decryptBlock n) := fun c => by
  rw [decryptBlock_eq_iterate, (decRound_iterate n _).2]

/-- Encryption leaves in S what decryption starts from, so the turns of R103 undo those of R104 one by one (R105). -/
theorem decryptBlock_encryptBlock (n : Nat) (c : Cipher) : decryptBlock n (encryptBlock n c) = { c with s := 0 } := by
  have hs : { encryptBlock n c with s := Config.DELTA * BitVec.ofNat 32 n } = encryptBlock n c := by
    rw [← encryptBlock_s n c]
  rw [decryptBlock_eq_iterate, hs, encryptBlock_eq_iterate]
  exact decRound_encRound.iterate n _

/-- Decryption leaves S = 0, from where encryption starts (R105). -/
theorem encryptBlock_decryptBlock (n : Nat) (c : Cipher) :
    encryptBlock n (decryptBlock n c) = { c with s := Config.DELTA * BitVec.ofNat 32 n } := by
  have hs : { decryptBlock n c with s := 0 } = decryptBlock n c := by rw [← decryptBlock_s n c]
  rw [encryptBlock_eq_iterate, hs, decryptBlock_eq_iterate]
  exact encRound_decRound.iterate n _

/-- Settles O19: the loops are iterates of the rounds, and a round of one is the inverse of a round of the other. -/
theorem cipherBlocksUndoEachOther : Obligations.CipherBlocksUndoEachOther := by
  intro n c
  refine ⟨?_, ?_, ?_, ?_, decryptBlock_s n c, encryptBlock_s n c, decryptBlock_keepsK n c, encryptBlock_keepsK n c⟩
  · rw [encryptBlock_eq_iterate, encRound_eq_encryptTurn]
  · rw [decryptBlock_eq_iterate, decRound_eq_decryptTurn]; rfl
  · rw [decryptBlock_encryptBlock]; exact ⟨rfl, rfl⟩
  · rw [encryptBlock_decryptBlock]; exact ⟨rfl, rfl⟩

/-! ### Slices and block packing -/

theorem slice_drop (bs : List Byte) (n a b : Nat) : slice (bs.drop n) a b = slice bs (n + a) (n + b) := by
  simp only [slice, List.take_drop, List.drop_drop]

theorem slice_slice (bs : List Byte) {a b c d : Nat} (h : a + d ≤ b) :
    slice (slice bs a b) c d = slice bs (a + c) (a + d) := by
  simp only [slice, List.take_drop, List.drop_drop, List.take_take, Nat.min_eq_left h]

theorem slice_append_left {xs ys : List Byte} {n : Nat} (h : xs.length = n) : slice (xs ++ ys) 0 n = xs := by
  rw [slice, List.drop_zero, List.take_left' h]

theorem slice_append_right {xs ys : List Byte} {n : Nat} (h : xs.length = n) (a b : Nat) :
    slice (xs ++ ys) (n + a) (n + b) = slice ys a b := by
  rw [← slice_drop, List.drop_left' h]

@[simp] theorem storeBlock_length (c : Cipher) : (storeBlock c).length = 8 := by simp [storeBlock]

/-- Unpacking what was packed gives V0 and V1 back (R101). -/
theorem loadBlock_storeBlock (c d : Cipher) : loadBlock (storeBlock c) d = { d with v0 := c.v0, v1 := c.v1 } := by
  have hlow : slice (storeBlock c) 0 4 = le32 c.v0 := slice_append_left (le32_length _)
  have hhigh : slice (storeBlock c) 4 8 = le32 c.v1 := by
    simpa [storeBlock] using slice_middle (le32 c.v0) (le32 c.v1) []
  rw [loadBlock, hlow, hhigh, LE32_le32, LE32_le32]

/-- Packing what was unpacked gives the 8 bytes back (R101). -/
theorem storeBlock_loadBlock {b : List Byte} (h : b.length = 8) (c : Cipher) : storeBlock (loadBlock b c) = b := by
  change le32 (LE32 (slice b 0 4)) ++ le32 (LE32 (slice b 4 8)) = b
  rw [le32_LE32 _ (by simp [h]), le32_LE32 _ (by simp [h])]
  simp [slice, List.take_of_length_le h.le]

/-! ### ECB -/

section
variable {blockFn : Cipher → Cipher} (hs : SetsS blockFn) (hk : KeepsK blockFn)
include hs hk

/-- A turn of R109's loop: the block's output, then that of the other blocks from the same registers. -/
theorem ecbBlocks_succ (n : Nat) (bs : List Byte) (c : Cipher) :
    (ecbBlocks blockFn (n + 1) bs c).1 =
      storeBlock (blockFn (loadBlock (bs.take 8) c)) ++ (ecbBlocks blockFn n (bs.drop 8) c).1 :=
  congrArg (storeBlock _ ++ ·) (ecbBlocks_output hs n (bs.drop 8) (hk (loadBlock (bs.take 8) c)))

/-- Block `j` of the output is the block function of block `j` of the input (R109). -/
theorem slice_ecbBlocks {n j : Nat} (hj : j < n) (bs : List Byte) (c : Cipher) :
    slice (ecbBlocks blockFn n bs c).1 (8 * j) (8 * j + 8) =
      storeBlock (blockFn (loadBlock (slice bs (8 * j) (8 * j + 8)) c)) := by
  induction n generalizing j bs with
  | zero => omega
  | succ n ih =>
    rw [ecbBlocks_succ hs hk]
    cases j with
    | zero => exact slice_append_left (storeBlock_length _)
    | succ j =>
      rw [show 8 * (j + 1) = 8 + 8 * j by ring, add_assoc, slice_append_right (storeBlock_length _),
        ih (by omega), slice_drop]

end

/-- Settles O20: both block functions set S before they read it and leave the key words, so each turn of the loop
starts from the key alone. -/
theorem ecbTakesEachBlockAlone : Obligations.EcbTakesEachBlockAlone := by
  intro f n bs key c₀ c₁ hf hlen
  have hs : SetsS (f n) := by
    rcases hf with rfl | rfl
    exacts [encryptBlock_setsS n, decryptBlock_setsS n]
  have hk : KeepsK (f n) := by
    rcases hf with rfl | rfl
    exacts [encryptBlock_keepsK n, decryptBlock_keepsK n]
  refine ⟨?_, fun j (hj : j < bs.length / Config.BLOCK) => ?_⟩
  · rw [ecb, ecbBlocks_length]
    exact Nat.div_mul_cancel (Nat.dvd_of_mod_eq_zero hlen)
  · rw [ecb_output hs bs key c₀ c₁, ecb, slice_ecbBlocks hs hk hj, loadBlock, slice_slice _ (by omega),
      slice_slice _ (by omega)]
    rfl

/-! ### Decryption of an encryption -/

/-- One block: packing keeps V0 and V1, and S is set again by the decryption. -/
theorem decrypt_encrypt_block (n : Nat) {b : List Byte} (hb : b.length = 8) {c d : Cipher} (hk : c.k = d.k) :
    storeBlock (decryptBlock n (loadBlock (storeBlock (encryptBlock n (loadBlock b c))) d)) = b := by
  have hload : loadBlock (storeBlock (encryptBlock n (loadBlock b c))) d =
      { encryptBlock n (loadBlock b c) with s := d.s } := by
    have hkey : (encryptBlock n (loadBlock b c)).k = d.k := (encryptBlock_keepsK n _).trans hk
    rw [loadBlock_storeBlock, ← hkey]
  rw [hload, decryptBlock_setsS n, decryptBlock_encryptBlock]
  exact storeBlock_loadBlock hb c

/-- All blocks, from registers with the same key words. -/
theorem decrypt_encrypt_blocks (r : Nat) {n : Nat} {bs : List Byte} (h : bs.length = 8 * n) {c d : Cipher}
    (hk : c.k = d.k) : (ecbBlocks (decryptBlock r) n (ecbBlocks (encryptBlock r) n bs c).1 d).1 = bs := by
  induction n generalizing bs with
  | zero => exact (List.length_eq_zero_iff.1 h).symm
  | succ n ih =>
    have hblock : (bs.take 8).length = 8 := by simp only [List.length_take]; omega
    have hrest : (bs.drop 8).length = 8 * n := by simp only [List.length_drop]; omega
    rw [ecbBlocks_succ (encryptBlock_setsS r) (encryptBlock_keepsK r),
      ecbBlocks_succ (decryptBlock_setsS r) (decryptBlock_keepsK r), List.take_left' (storeBlock_length _),
      List.drop_left' (storeBlock_length _), decrypt_encrypt_block r hblock hk, ih hrest, List.take_append_drop]

/-- Settles O21: the ciphertext has as many blocks as the input, and decryption undoes each of them. -/
theorem decryptUndoesEncrypt : Obligations.DecryptUndoesEncrypt := by
  intro n bs key c₀ c₁ hlen
  have hblocks : (ecb (encryptBlock n) bs key c₀).1.length / Config.BLOCK = bs.length / Config.BLOCK := by
    rw [ecb, ecbBlocks_length, Nat.mul_div_cancel _ (by decide)]
  rw [ecb, hblocks, ecb]
  exact decrypt_encrypt_blocks n (Nat.mul_div_cancel' (Nat.dvd_of_mod_eq_zero hlen)).symm rfl

/-! ### The commands XTEA_ENC and XTEA_DEC -/

/-- Both commands end in `cipherEnd`, of their block function (R107, R108). -/
theorem inputEnd_cipher {i : Instr} (h : i = .xteaEnc ∨ i = .xteaDec) :
    ∃ blockFn, inputEnd i = some (cipherEnd blockFn) := by
  rcases h with rfl | rfl <;> exact ⟨_, rfl⟩

/-- The end of an admitted cipher run: R109's output in OBUF, and some values in V0, V1, S and K. -/
theorem cipherEnd_admitted {bs : List Byte} {s : State} (h : admission (roundsOf s) bs = none)
    (blockFn : Nat → Cipher → Cipher) :
    ∃ c, cipherEnd blockFn bs s =
      finishOk (setObuf (ecb (blockFn (posRounds s)) bs s.key.toList s.work.cipher).1 (setCipher c s)) := by
  refine ⟨(ecb (blockFn (posRounds s)) bs s.key.toList s.work.cipher).2, ?_⟩
  simp only [cipherEnd, cipherRun, h]
  rfl

/-- The end of a cipher run that is turned away (R106, R240). -/
theorem cipherEnd_turnedAway {bs : List Byte} {s : State} {cause : Cause} (h : admission (roundsOf s) bs = some cause)
    (blockFn : Nat → Cipher → Cipher) :
    cipherEnd blockFn bs s = raiseFatal ⟨.cipherFailed, .cause cause⟩ s := by
  simp only [cipherEnd, cipherRun, h]

/-- A cipher command that is admitted ends OK with R109's output, whatever the registers `c` it ran from. -/
theorem endsWith_of_admitted {i : Instr} {blockFn : Nat → Cipher → Cipher} {s : State} {bs : List Byte}
    (hi : inputEnd i = some (cipherEnd blockFn)) (hf : ∀ n, SetsS (blockFn n)) (hr : Ready s bs)
    (ha : admission (roundsOf s) bs = none) (c : Cipher) :
    EndsWith i s (okView (outRes (ecb (blockFn (posRounds s)) bs s.key.toList c).1)) := by
  obtain ⟨d, hd⟩ := cipherEnd_admitted (s := startCommand s) ha blockFn
  refine endsWith_of_inputEnd hi hr ?_ ?_
  · rw [hd, ecb_output (hf _) bs _ c s.work.cipher]; rfl
  · rw [hd]; rfl

/-- A cipher command that is turned away ends FATAL with the cause (R106, R240). -/
theorem endsWith_of_turnedAway {i : Instr} {s : State} {bs : List Byte} {cause : Cause}
    (hi : i = .xteaEnc ∨ i = .xteaDec) (hr : Ready s bs) (ha : admission (roundsOf s) bs = some cause) :
    EndsWith i s (fatalOutcome ⟨.cipherFailed, .cause cause⟩ none .none []) := by
  obtain ⟨blockFn, hend⟩ := inputEnd_cipher hi
  have ht := cipherEnd_turnedAway (s := startCommand s) ha blockFn
  refine endsWith_of_inputEnd hend hr ?_ ?_ <;> rw [ht] <;> rfl

/-- The worked example of R107. -/
theorem ecb_encrypt_workedExample (c : Cipher) :
    (ecb (encryptBlock 32) [0x41, 0x42, 0x43, 0x44, 0x45, 0x46, 0x47, 0x48]
      [0, 1, 2, 3, 4, 5, 6, 7, 8, 9, 10, 11, 12, 13, 14, 15] c).1 =
      [0xCA, 0xE7, 0x69, 0x7E, 0x00, 0x6E, 0xE9, 0x21] := by
  rw [ecb_output (encryptBlock_setsS 32) _ _ c ⟨0, 0, 0, #v[0, 0, 0, 0]⟩]
  decide

/-- Settles O22: an input of whole blocks under a positive round count is admitted, and the example of R108 is that of
R107 undone. -/
theorem cipherCommandsComplete : Obligations.CipherCommandsComplete := by
  refine ⟨decodeReadsBackEncode .xteaEnc [] rfl rfl, decodeReadsBackEncode .xteaDec [] rfl rfl,
    fun s bs c hr hpos hne hlen => ?_, fun c => ⟨ecb_encrypt_workedExample c, ?_⟩⟩
  · have ha : admission (roundsOf s) bs = none := admit_none.2 ⟨hpos, hne, hlen⟩
    exact ⟨endsWith_of_admitted rfl encryptBlock_setsS hr ha c, endsWith_of_admitted rfl decryptBlock_setsS hr ha c⟩
  · rw [← ecb_encrypt_workedExample c]
    exact decryptUndoesEncrypt 32 _ _ c c rfl

/-- Settles O23: R106 tests the round count before the length, and either command ends with the cause it finds. -/
theorem cipherCommandsAreTurnedAway : Obligations.CipherCommandsAreTurnedAway := by
  intro s bs i hr hi
  refine ⟨fun hrounds => ?_, fun hrounds hlen => ?_⟩
  · have ha : admission (roundsOf s) bs = some .roundsNotPositive := if_pos hrounds
    exact endsWith_of_turnedAway hi hr ha
  · have hbad : bs.length = 0 ∨ bs.length % Config.BLOCK ≠ 0 := hlen.symm.imp_left List.length_eq_zero_iff.2
    have ha : admission (roundsOf s) bs = some .badLength := (if_neg (not_le.2 hrounds)).trans (if_pos hbad)
    exact endsWith_of_turnedAway hi hr ha

end Sys2Proof.Machine
end

section
/-! SUPPORT. The Framer (42_framer.md R120 to R124): the bytes `stuff` emits, `unstuff` from the left, and the commands
STUFF and UNSTUFF. -/

namespace Sys2Proof.Machine

open Sys2Proof.Claims

/-! ### What `stuff` emits -/

theorem stuffByte_length (b : Byte) :
    (stuffByte b).length = 1 + if b == 0xC0 || b == 0xC2 || b == 0xC4 then 1 else 0 := by
  rw [stuffByte_eq]
  split_ifs <;> simp_all [Config.START, Config.END, Config.ESC]

theorem stuff_length (x : List Byte) :
    (stuff x).length = x.length + x.countP fun b => b == 0xC0 || b == 0xC2 || b == 0xC4 := by
  induction x with
  | nil => rfl
  | cons b bs ih =>
    rw [stuff_cons, List.length_append, stuffByte_length, ih, List.countP_cons, List.length_cons]
    omega

/-- The markers are replaced, and no replacement holds one (R64). -/
theorem marker_not_mem_stuffByte (b : Byte) : Config.START ∉ stuffByte b ∧ Config.END ∉ stuffByte b := by
  rw [stuffByte_eq]
  split_ifs with hstart hend
  · decide
  · decide
  · decide
  · simp only [List.mem_singleton]
    exact ⟨Ne.symm hstart, Ne.symm hend⟩

theorem marker_not_mem_stuff (x : List Byte) : Config.START ∉ stuff x ∧ Config.END ∉ stuff x := by
  induction x with
  | nil => exact ⟨List.not_mem_nil, List.not_mem_nil⟩
  | cons b bs ih =>
    obtain ⟨hstart, hend⟩ := marker_not_mem_stuffByte b
    obtain ⟨ihstart, ihend⟩ := ih
    simp only [stuff_cons, List.mem_append, not_or]
    exact ⟨⟨hstart, ihstart⟩, hend, ihend⟩

/-- Settles O25: each byte adds its replacement, of one or two bytes. -/
theorem stuffedBytesHoldNoMarker : Obligations.StuffedBytesHoldNoMarker :=
  fun x => ⟨stuff_length x, stuff_length_le x, marker_not_mem_stuff x⟩

/-! ### `unstuff` from the left -/

/-- Any fuel that covers the bytes does for `unstuff`. -/
theorem unstuffFrom_fuel {fuel i : Nat} {bs : List Byte} (h : bs.length ≤ fuel) :
    unstuffFrom fuel bs i = unstuffFrom bs.length bs i := by
  induction fuel, h using Nat.le_induction with
  | base => rfl
  | succ fuel hle ih => rw [unstuffFrom_succ hle, ih]

/-- Input of `unstuff` that is not empty opens with one of its symbols (R122). -/
theorem unstuff_opens (bs : List Byte) (i : Nat) :
    bs = [] ∨ ∃ ins sym, decode .unstuffIn bs = .ok ins ∧ unstuffRule ins i = some sym := by
  cases bs with
  | nil => exact .inl rfl
  | cons b rest =>
    obtain ⟨ins, hd, -, hsp⟩ := decode_found .unstuffIn b rest
    obtain ⟨sym, hr, -⟩ := exec_unstuffSymbol hsp
    exact .inr ⟨ins, sym i, hd, hr i⟩

/-- Bytes that follow do not change a symbol that appends: only a dangling 0xC4 depends on where the input ends. -/
theorem decode_unstuff_append {bs out : List Byte} {ins : Instr} {n w : Nat} (hd : decode .unstuffIn bs = .ok ins)
    (hr : unstuffRule ins n = some (.emit out w)) (after : List Byte) :
    decode .unstuffIn (bs ++ after) = .ok ins := by
  cases bs with
  | nil => cases hd
  | cons b rest =>
    cases rest with
    | cons m more => exact hd
    | nil =>
      by_cases hb : b = Config.ESC
      · subst hb
        obtain rfl : Instr.unstuffDangling = ins := Except.ok.inj hd
        cases hr
      · simpa only [decode, List.cons_append, beq_iff_eq, hb, if_false] using hd

theorem except_map_eq_ok {ε α β : Type} {r : Except ε α} {f : α → β} {b : β} (h : r.map f = .ok b) :
    ∃ a, r = .ok a ∧ f a = b := by
  cases r with
  | error e => cases h
  | ok a => exact ⟨a, rfl, Except.ok.inj h⟩

theorem except_map_eq_error {ε α β : Type} {r : Except ε α} {f : α → β} {e : ε} (h : r.map f = .error e) :
    r = .error e := by
  cases r with
  | error e => exact congrArg _ (Except.error.inj h)
  | ok a => cases h

theorem except_map_nil_append (r : Except FatalError (List Byte)) : r.map ([] ++ ·) = r := by cases r <;> rfl

theorem except_map_append_append (r : Except FatalError (List Byte)) (xs ys : List Byte) :
    (r.map (ys ++ ·)).map (xs ++ ·) = r.map (xs ++ ys ++ ·) := by
  cases r with
  | error e => rfl
  | ok out => simp only [Except.map, List.append_assoc]

/-- After bytes it has read, `unstuff` goes on as from a beginning, at the index it has come to (R122). -/
theorem unstuffFrom_append {fuel i : Nat} {before out : List Byte} (hlen : before.length ≤ fuel)
    (h : unstuffFrom fuel before i = .ok out) (after : List Byte) :
    unstuffFrom (fuel + after.length) (before ++ after) i =
      (unstuffFrom after.length after (i + before.length)).map (out ++ ·) := by
  induction fuel generalizing before out i with
  | zero =>
    obtain rfl := List.length_eq_zero_iff.1 (Nat.le_zero.1 hlen)
    cases h
    rw [except_map_nil_append, Nat.zero_add]
    rfl
  | succ fuel ih =>
    rcases unstuff_opens before i with rfl | ⟨ins, ⟨o, w⟩ | _, hd, hr⟩
    · rw [unstuffFrom_nil] at h
      cases h
      rw [except_map_nil_append]
      exact unstuffFrom_fuel (Nat.le_add_left after.length (fuel + 1))
    · rw [unstuffFrom_emit hd hr] at h
      obtain ⟨more, hm, rfl⟩ := except_map_eq_ok h
      obtain ⟨-, hw⟩ := unstuffRule_emit hd hr
      have hpos := unstuffRule_width_pos hr
      have hi : i + w + (before.drop w).length = i + before.length := by rw [List.length_drop]; omega
      rw [Nat.add_right_comm, unstuffFrom_emit (decode_unstuff_append hd hr after) hr, List.drop_append_of_le_length hw,
        ih (by rw [List.length_drop]; omega) hm, except_map_append_append, hi]
    · rw [unstuffFrom_error hd hr] at h
      cases h

theorem unstuff_append {before out : List Byte} (h : unstuff before = .ok out) (after : List Byte) :
    unstuff (before ++ after) = (unstuffFrom after.length after before.length).map (out ++ ·) := by
  rw [unstuff, List.length_append, unstuffFrom_append le_rfl h, Nat.zero_add]

section
variable {before out : List Byte} (h : unstuff before = .ok out)
include h

theorem unstuff_append_copy {b : Byte} (hb : b ≠ Config.ESC) : unstuff (before ++ [b]) = .ok (out ++ [b]) := by
  rw [unstuff_append h, List.length_singleton, unstuffFrom_copy 0 b [] _ hb]; rfl

/-- A legal pair (R64). -/
theorem unstuff_append_pair {n b : Byte} (hp : (n = Config.codeC0 ∧ b = Config.START) ∨
    (n = Config.codeC2 ∧ b = Config.END) ∨ (n = Config.codeC4 ∧ b = Config.ESC)) :
    unstuff (before ++ [Config.ESC, n]) = .ok (out ++ [b]) := by
  rw [unstuff_append h, List.length_cons, unstuffFrom_pair _ n b [] _ hp, unstuffFrom_nil]; rfl

theorem unstuff_append_dangling :
    unstuff (before ++ [Config.ESC]) = .error ⟨.danglingEscapeByte, .offset before.length⟩ := by
  rw [unstuff_append h, List.length_singleton, unstuffFrom_dangling]; rfl

theorem unstuff_append_bad {n : Byte} (h0 : n ≠ Config.codeC0) (h2 : n ≠ Config.codeC2) (h4 : n ≠ Config.codeC4)
    (after : List Byte) : unstuff (before ++ Config.ESC :: n :: after) =
      .error ⟨.invalidEscapeSequence, .escape before.length n⟩ := by
  rw [unstuff_append h, List.length_cons, unstuffFrom_bad _ n after _ h0 h2 h4]; rfl

/-- What `stuff` makes of a byte, `unstuff` reads back as that byte. -/
theorem unstuff_append_stuffByte (b : Byte) : unstuff (before ++ stuffByte b) = .ok (out ++ [b]) := by
  rw [stuffByte_eq]
  split_ifs with hstart hend hesc
  · exact unstuff_append_pair h (.inl ⟨rfl, hstart⟩)
  · exact unstuff_append_pair h (.inr (.inl ⟨rfl, hend⟩))
  · exact unstuff_append_pair h (.inr (.inr ⟨rfl, hesc⟩))
  · exact unstuff_append_copy h hesc

end

/-- Settles O26: what follows `before` is read as at a beginning, where one lemma for each symbol tells its meaning. -/
theorem unstuffReadsFromTheLeft : Obligations.UnstuffReadsFromTheLeft := by
  refine ⟨rfl, fun before out h => ⟨fun b hb => unstuff_append_copy h hb, unstuff_append_pair h (.inl ⟨rfl, rfl⟩),
    unstuff_append_pair h (.inr (.inl ⟨rfl, rfl⟩)), unstuff_append_pair h (.inr (.inr ⟨rfl, rfl⟩)),
    unstuff_append_dangling h, fun n after h0 h2 h4 => ?_⟩⟩
  rw [List.append_assoc]
  exact unstuff_append_bad h h0 h2 h4 after

theorem unstuff_stuff (x : List Byte) : unstuff (stuff x) = .ok x := by
  induction x using List.reverseRecOn with
  | nil => rfl
  | append_singleton x b ih =>
    rw [stuff_append, stuff_cons, stuff_nil, List.append_nil]
    exact unstuff_append_stuffByte ih b

/-- Settles O24: a start marker left as it is is copied by `unstuff` and replaced by `stuff`, so the converse fails. -/
theorem unstuffUndoesStuff : Obligations.UnstuffUndoesStuff :=
  ⟨unstuff_stuff, [0xC0], [0xC0], rfl, by decide⟩

/-! ### The errors of `unstuff` -/

/-- Whatever `unstuff` raises, one of its symbols raises (R122). -/
theorem unstuffFrom_raised {fuel i : Nat} {bs : List Byte} {e : FatalError} (h : unstuffFrom fuel bs i = .error e) :
    ∃ ins n, unstuffRule ins n = some (.bad e) := by
  induction fuel generalizing bs i with
  | zero => cases h
  | succ fuel ih =>
    rcases unstuff_opens bs i with rfl | ⟨ins, ⟨o, w⟩ | _, hd, hr⟩
    · rw [unstuffFrom_nil] at h
      cases h
    · rw [unstuffFrom_emit hd hr] at h
      exact ih (except_map_eq_error h)
    · rw [unstuffFrom_error hd hr] at h
      cases h
      exact ⟨ins, i, hr⟩

/-- Both errors of R122 carry the stage tag `unstuff` (R231). -/
theorem unstuffRule_stage {ins : Instr} {n : Nat} {e : FatalError} (h : unstuffRule ins n = some (.bad e)) :
    e.reason.stage = .unstuff := by
  cases ins <;> cases h <;> rfl

theorem unstuff_stage {bs : List Byte} {e : FatalError} (h : unstuff bs = .error e) : e.reason.stage = .unstuff := by
  obtain ⟨ins, n, hr⟩ := unstuffFrom_raised h
  exact unstuffRule_stage hr

/-! ### The commands STUFF and UNSTUFF -/

/-- Settles O27: STUFF is `obufEnd` on its input, and a run of reserved bytes counts each byte twice. -/
theorem stuffCompletes : Obligations.StuffCompletes := by
  refine ⟨decodeReadsBackEncode .stuff [] rfl rfl, fun s bs hs => endsWith_of_inputEnd rfl hs rfl rfl, rfl,
    fun bs hbs => ?_, by decide⟩
  have hall : bs.countP (fun b => b == 0xC0 || b == 0xC2 || b == 0xC4) = bs.length :=
    List.countP_eq_length.2 fun b hb => by simpa [or_assoc] using hbs b hb
  rw [stuff_length, hall]
  omega

theorem unstuffEnd_ok {bs out : List Byte} (h : unstuff bs = .ok out) (s : State) :
    unstuffEnd bs s = finishOk (setObuf out s) := by simp only [unstuffEnd, h]

theorem unstuffEnd_error {bs : List Byte} {e : FatalError} (h : unstuff bs = .error e) (s : State) :
    unstuffEnd bs s = raiseFatal e s := by simp only [unstuffEnd, h]

/-- Settles O28: UNSTUFF is `unstuffEnd` on its input. -/
theorem unstuffEnds : Obligations.UnstuffEnds := by
  refine ⟨decodeReadsBackEncode .unstuff [] rfl rfl,
    fun s bs hs => ⟨fun out h => endsWith_of_inputEnd rfl hs ?_ ?_, fun e h => endsWith_of_inputEnd rfl hs ?_ ?_⟩,
    fun bs e => unstuff_stage, rfl, by decide, by decide, by decide⟩
  · rw [unstuffEnd_ok h]; rfl
  · rw [unstuffEnd_ok h]; rfl
  · rw [unstuffEnd_error h]; rfl
  · rw [unstuffEnd_error h]; rfl

/-! ### The symbols that end a scan -/

theorem unstuffStep_bad {s : State} {sc : Scan} {sym : Nat → Symbol} {e : FatalError} (hw : s.walk = .unstuffing sc)
    (hs : sym sc.i = .bad e) : unstuffStep sym s = .next (raiseFatal e s) := by simp only [unstuffStep, hw, hs]

/-- The second bytes listed are those the rules report (R122). -/
theorem unstuffRule_of_badEscapes (x : Byte) : ∀ r ∈ badEscapes x,
    r.1.space = .unstuffIn ∧ ∀ n, unstuffRule r.1 n = some (.bad ⟨.invalidEscapeSequence, .escape n r.2⟩) := by
  simp only [badEscapes, List.forall_mem_cons]
  refine ⟨?_, ?_, ?_, ?_, ?_, ?_, ?_, ?_, ?_, nofun⟩ <;> exact ⟨rfl, fun _ => rfl⟩

/-- A fatal error of a running command with no results and no device id yet (R240). -/
theorem viewOf_raiseFatal {s : State} (hst : s.status = Status.started) (hres : s.res = {})
    (hp : s.cmdPending = false) (e : FatalError) :
    viewOf (raiseFatal e s) = fatalOutcome e none s.stage s.keyRequests := by
  simp only [viewOf, raiseFatal_status, raiseFatal_res, raiseFatal_stage, raiseFatal_keyRequests,
    raiseFatal_cmdPending, hst, hres, hp]
  rfl

/-- A symbol of `unstuff` that is an error ends its command FATAL where the scan stands (R122, R240). -/
theorem endsAt_of_badSymbol {i : Instr} {s : State} {sc : Scan} {e : FatalError} (hi : i.space = .unstuffIn)
    (hr : unstuffRule i sc.i = some (.bad e)) (hw : s.walk = .unstuffing sc) (hst : s.status = Status.started)
    (hres : s.res = {}) (hp : s.cmdPending = false) :
    EndsAt i s (fatalOutcome e none s.stage s.keyRequests) s.off := by
  obtain ⟨sym, hsym, he⟩ := exec_unstuffSymbol hi
  have hbad : sym sc.i = .bad e := Option.some.inj ((hsym sc.i).symm.trans hr)
  exact ⟨raiseFatal e s, (he s).trans (unstuffStep_bad hw hbad), kept_iff.2 rfl, viewOf_raiseFatal hst hres hp e, rfl,
    rfl⟩

/-- Settles O31: each listed symbol is one whose rule raises the error. -/
theorem badEscapesAbort : Obligations.BadEscapesAbort := by
  intro x r s sc hr hw hst hres hp
  obtain ⟨hspace, hrule⟩ := unstuffRule_of_badEscapes x r hr
  exact ⟨endsAt_of_badSymbol hspace (hrule sc.i) hw hst hres hp, endsAt_of_badSymbol rfl rfl hw hst hres hp⟩

end Sys2Proof.Machine
end

section
/-! SUPPORT. The DecodePipeline (43_decode_pipeline.md R135 to R150): what each check of DECODE answers, where each
stage goes on and where it ends the command, and the key port over every command. -/

namespace Sys2Proof.Machine

open Sys2Proof.Claims

/-! ### The checks -/

theorem checkFrame_short {D : List Byte} (h : D.length < 2) : checkFrame D = some ⟨.tooShort, .length D.length⟩ :=
  if_pos h

theorem checkFrame_boundaries {D : List Byte} {f l : Byte} (h : 2 ≤ D.length) (hf : D.head? = some f)
    (hl : D.getLast? = some l) :
    checkFrame D = if f ≠ 0xC0 ∨ l ≠ 0xC2 then some ⟨.invalidBoundaries, .boundaries f l⟩ else none := by
  have hfirst : D.headD 0 = f := by rw [List.headD_eq_head?_getD, hf, Option.getD_some]
  have hlast : D.getLastD 0 = l := by rw [List.getLastD_eq_getLast?, hl, Option.getD_some]
  rw [checkFrame, if_neg (not_lt.2 h), hfirst, hlast]
  rfl

theorem checkFrame_sound {D : List Byte} (h : 2 ≤ D.length) (hf : D.head? = some 0xC0) (hl : D.getLast? = some 0xC2) :
    checkFrame D = none := by rw [checkFrame_boundaries h hf hl]; rfl

theorem checkBody_short {body : List Byte} (h : body.length < 16) :
    checkBody body = some ⟨.bodyTooShort, .length body.length⟩ := if_pos h

theorem checkBody_long {body : List Byte} (h : 16 ≤ body.length) : checkBody body = none := if_neg (not_lt.2 h)

/-- The device id the statements name (R141). -/
theorem bodyDevid_eq_bodyId (body : List Byte) : bodyDevid body = bodyId body := rfl

theorem bodyCt_length (body : List Byte) : (bodyCt body).length = body.length - 8 := List.length_drop

/-- A body of at least 16 bytes has a ciphertext, so its length can only fail to be a multiple of 8 (R142). -/
theorem checkCt_bodyCt {body : List Byte} (h : 16 ≤ body.length) :
    checkCt (bodyCt body) =
      if body.length % 8 ≠ 0 then some ⟨.invalidCiphertextLength, .length (body.length - 8)⟩ else none := by
  have hblock : (bodyCt body).length = 0 ∨ (bodyCt body).length % Config.BLOCK ≠ 0 ↔ body.length % 8 ≠ 0 := by
    rw [bodyCt_length, Config.BLOCK]; omega
  simp only [checkCt, hblock]
  rw [bodyCt_length]

/-- A ciphertext of whole blocks under a positive round count is decrypted (R106, R145). -/
theorem admission_bodyCt {n : Int} {body : List Byte} (hn : 0 < n) (h : 16 ≤ body.length) (h8 : body.length % 8 = 0) :
    admission n (bodyCt body) = none := by
  rw [admit_none, bodyCt_length, Config.BLOCK]
  omega

theorem checkKey_sound {key : List Byte} (h : key.length = 16) : checkKey (some key) = .ok key :=
  if_neg (not_not.2 h)

theorem checkKey_wrongLength {key : List Byte} (h : key.length ≠ 16) :
    checkKey (some key) = .error ⟨.invalidKeyLength, .length key.length⟩ := if_pos h

/-- A plaintext of 2 bytes or more is judged by its trailer alone (R146). -/
theorem checkCrc_long {pt : List Byte} (v : BitVec 16) (h : 2 ≤ pt.length) :
    checkCrc pt v = if plainTrailer pt ≠ v then some ⟨.crcMismatch, .crc (plainTrailer pt) v⟩ else none :=
  if_neg (not_lt.2 h)

/-! ### The stages: where each goes on, and where it ends the command -/

theorem frameStage_rejected {D : List Byte} {e : FatalError} (h : checkFrame D = some e) (s : State) :
    frameStage D s = raiseFatal e (setStage .frame s) := by simp only [frameStage, h]

theorem frameStage_badEscape {D : List Byte} {e : FatalError} (hm : checkFrame D = none)
    (hu : unstuff (interior D) = .error e) (s : State) : frameStage D s = raiseFatal e (setStage .unstuff s) := by
  simp only [frameStage, hm, hu]; rfl

/-- The state once the interior is unstuffed (R138). -/
def received (body : List Byte) (s : State) : State := setBody body (setStage .unstuff s)

theorem frameStage_body {D body : List Byte} (hm : checkFrame D = none) (hu : unstuff (interior D) = .ok body)
    (s : State) : frameStage D s = bodyStage (received body s) := by
  simp only [frameStage, hm, hu]; rfl

theorem bodyStage_rejected {s : State} {e : FatalError} (h : checkBody s.work.body = some e) :
    bodyStage s = raiseFatal e (setStage .imei s) := by simp only [bodyStage, setStage_work, h]

/-- The state once the device id is known and the ciphertext cut off (R141, R142). -/
def identified (s : State) : State :=
  setCt (bodyCt s.work.body) (setStage .xtea (setDevid (bodyDevid s.work.body) s))

theorem bodyStage_badCt {s : State} {e : FatalError} (hb : checkBody s.work.body = none)
    (hc : checkCt (bodyCt s.work.body) = some e) : bodyStage s = raiseFatal e (identified s) := by
  simp only [bodyStage, setStage_work, hb, setDevid_work, setCt_work, hc]; rfl

theorem bodyStage_identified {s : State} (hb : checkBody s.work.body = none)
    (hc : checkCt (bodyCt s.work.body) = none) : bodyStage s = keyStage (identified s) := by
  simp only [bodyStage, setStage_work, hb, setDevid_work, setCt_work, hc]; rfl

/-- The state once the key port has been asked (R143). -/
def asked (s : State) : State := requestKey (decString s.res.devid) (setStage .keyLookup s)

/-- The answer comes from the resolver, which no request changes. -/
theorem keyAnswer_asked (s : State) (q : List Byte) : keyAnswer (asked s) q = keyAnswer s q := rfl

@[simp] theorem asked_rounds (s : State) : (asked s).rounds = s.rounds := rfl
@[simp] theorem asked_work (s : State) : (asked s).work = s.work := rfl
@[simp] theorem asked_res (s : State) : (asked s).res = s.res := rfl
@[simp] theorem asked_keyRequests (s : State) :
    (asked s).keyRequests = s.keyRequests ++ [decString s.res.devid] := rfl

theorem keyStage_rejected {s : State} {e : FatalError}
    (h : checkKey (keyAnswer s (decString s.res.devid)) = .error e) : keyStage s = raiseFatal e (asked s) := by
  rw [← keyAnswer_asked, asked] at h
  simp only [keyStage, h]
  rfl

theorem keyStage_answered {s : State} {key : List Byte}
    (h : checkKey (keyAnswer s (decString s.res.devid)) = .ok key) : keyStage s = decryptStage key (asked s) := by
  rw [← keyAnswer_asked, asked] at h
  simp only [keyStage, h]
  rfl

theorem decryptStage_turnedAway {s : State} {c : Cause} (h : admission (roundsOf s) s.work.ct = some c)
    (key : List Byte) : decryptStage key s = raiseFatal ⟨.decryptFailed, .cause c⟩ (setStage .xtea s) := by
  rcases cipherRun_cases decryptBlock s.work.ct key (setStage .xtea s) with ⟨c', ha, hrun⟩ | ⟨ha, -⟩
  · obtain rfl : c = c' := Option.some.inj (h.symm.trans ha)
    simp only [decryptStage, setStage_work, hrun]
  · cases h.symm.trans ha

/-- The state once the plaintext `pt` is there, with `c` in V0, V1, S and K (R145). -/
def decrypted (pt : List Byte) (c : Cipher) (s : State) : State := setPt pt (setCipher c (setStage .xtea s))

@[simp] theorem decrypted_keyRequests (pt : List Byte) (c : Cipher) (s : State) :
    (decrypted pt c s).keyRequests = s.keyRequests := rfl

/-- The plaintext is the same whatever the registers `c` the decryption ran from. -/
theorem decryptStage_admitted {s : State} (h : admission (roundsOf s) s.work.ct = none) (key : List Byte)
    (c : Cipher) :
    ∃ d, decryptStage key s = crcStage (decrypted (ecb (decryptBlock (posRounds s)) s.work.ct key c).1 d s) := by
  rcases cipherRun_cases decryptBlock s.work.ct key (setStage .xtea s) with ⟨_, ha, -⟩ | ⟨-, d, hrun⟩
  · cases h.symm.trans ha
  · refine ⟨d, ?_⟩
    rw [ecb_output (decryptBlock_setsS _) _ _ c s.work.cipher]
    simp only [decryptStage, setStage_work, hrun]
    rfl

/-- The state once the checksum of the payload is computed (R146). -/
def checksummed (s : State) : State := runCrc (plainPayload s.work.pt) Config.crcDefault (setStage .crc s)

@[simp] theorem checksummed_keyRequests (s : State) : (checksummed s).keyRequests = s.keyRequests := rfl

theorem crcStage_rejected {s : State} {e : FatalError}
    (h : checkCrc s.work.pt (crc16 (plainPayload s.work.pt) Config.crcDefault) = some e) :
    crcStage s = raiseFatal e (checksummed s) := by
  simp only [crcStage, runCrc, setCrc_work, setStage_work, h]; rfl

theorem crcStage_sound {s : State}
    (h : checkCrc s.work.pt (crc16 (plainPayload s.work.pt) Config.crcDefault) = none) :
    crcStage s = payloadStage (checksummed s) := by
  simp only [crcStage, runCrc, setCrc_work, setStage_work, h]; rfl

/-! ### Before the device id is known -/

/-- A run of DECODE that raises a fatal error. -/
theorem endsWith_of_decodeFatal {s u : State} {D : List Byte} {e : FatalError} {o : CommandView} (hs : Ready s D)
    (h : frameStage D (startCommand s) = raiseFatal e u) (hv : viewOf (raiseFatal e u) = o) : EndsWith .decode s o :=
  endsWith_of_inputEnd rfl hs ((congrArg viewOf h).trans hv) (congrArg State.walk h)

/-- Settles O53: up to `body_too_short` no stage has written DEVID or asked the key port. -/
theorem decodeFailsBeforeTheDeviceId : Obligations.DecodeFailsBeforeTheDeviceId := by
  intro s D hs
  refine ⟨fun hshort => ?_, fun f l h hf hl hbad => ?_, fun h hf hl => ⟨fun e he => ?_, fun body hu hshort => ?_⟩⟩
  · exact endsWith_of_decodeFatal hs (frameStage_rejected (checkFrame_short hshort) _)
      (viewOf_raiseFatal rfl rfl rfl _)
  · have hframe := (checkFrame_boundaries h hf hl).trans (if_pos hbad)
    exact endsWith_of_decodeFatal hs (frameStage_rejected hframe _) (viewOf_raiseFatal rfl rfl rfl _)
  · exact endsWith_of_decodeFatal hs (frameStage_badEscape (checkFrame_sound h hf hl) he _)
      (viewOf_raiseFatal rfl rfl rfl _)
  · exact endsWith_of_decodeFatal hs
      ((frameStage_body (checkFrame_sound h hf hl) hu _).trans (bodyStage_rejected (checkBody_short hshort)))
      (viewOf_raiseFatal rfl rfl rfl _)

/-! ### Once the device id is known -/

/-- DECODE runs, knows the device id `d`, and has no other result: what holds from R141 up to `payload_parse`. -/
structure KnowsId (d : BitVec 64) (s : State) : Prop where
  status : s.status = Status.started.withDevid
  res : s.res = { devid := d }
  pending : s.cmdPending = false

namespace KnowsId

variable {d : BitVec 64} {s : State}

theorem setStage (st : Stage) (h : KnowsId d s) : KnowsId d (setStage st s) := ⟨h.status, h.res, h.pending⟩

theorem asked (h : KnowsId d s) : KnowsId d (asked s) := ⟨h.status, h.res, h.pending⟩

theorem decrypted (pt : List Byte) (c : Cipher) (h : KnowsId d s) : KnowsId d (decrypted pt c s) :=
  ⟨h.status, h.res, h.pending⟩

theorem checksummed (h : KnowsId d s) : KnowsId d (checksummed s) := ⟨h.status, h.res, h.pending⟩

/-- A fatal error keeps the device id, and nothing else (R240). -/
theorem viewOf_raiseFatal (h : KnowsId d s) (e : FatalError) :
    viewOf (raiseFatal e s) = fatalOutcome e (some d) s.stage s.keyRequests := by
  simp only [viewOf, raiseFatal_status, raiseFatal_res, raiseFatal_stage, raiseFatal_keyRequests,
    raiseFatal_cmdPending, h.status, h.res, h.pending]
  rfl

/-- A run of DECODE that raises a fatal error once it knows the device id. -/
theorem endsWith_fatal {r : State} {D : List Byte} {e : FatalError} {stage : Stage} {q : List (List Byte)}
    (h : KnowsId d s) (hr : Ready r D) (hf : frameStage D (startCommand r) = raiseFatal e s) (hst : s.stage = stage)
    (hq : s.keyRequests = q) : EndsWith .decode r (fatalOutcome e (some d) stage q) :=
  endsWith_of_decodeFatal hr hf (by rw [h.viewOf_raiseFatal, hst, hq])

end KnowsId

/-- The state in which DECODE knows the device id of `body`, nothing asked yet. -/
def known (body : List Byte) (s : State) : State := identified (received body (startCommand s))

theorem knowsId_known (body : List Byte) (s : State) : KnowsId (bodyId body) (known body s) where
  status := by simp [known, identified, received]
  res := by simp [known, identified, received, bodyDevid_eq_bodyId]
  pending := by simp [known, identified, received]

@[simp] theorem known_res (body : List Byte) (s : State) : (known body s).res = { devid := bodyId body } :=
  (knowsId_known body s).res

@[simp] theorem known_stage (body : List Byte) (s : State) : (known body s).stage = .xtea := by
  simp [known, identified]

@[simp] theorem known_keyRequests (body : List Byte) (s : State) : (known body s).keyRequests = [] := by
  simp [known, identified, received]

@[simp] theorem known_ct (body : List Byte) (s : State) : (known body s).work.ct = bodyCt body := by
  simp [known, identified, received]

theorem settings_known (body : List Byte) (s : State) : settings (known body s) = settings s := by
  simp [known, identified, received]

theorem roundsOf_asked_known (body : List Byte) (s : State) :
    roundsOf (asked (known body s)) = roundsOf s := by
  rw [roundsOf, asked_rounds, (kept_iff.2 (settings_known body s)).rounds, roundsOf]

theorem keyAnswer_known (body q : List Byte) (s : State) : keyAnswer (known body s) q = keyAnswer s q := by
  have hkept := kept_iff.2 (settings_known body s)
  rw [keyAnswer, keyAnswer, hkept.keyTable, hkept.keyDefault]

theorem asked_known_keyRequests (body : List Byte) (s : State) :
    (asked (known body s)).keyRequests = [decString (bodyId body)] := by simp

section
variable {D body : List Byte} (hm : checkFrame D = none) (hu : unstuff (interior D) = .ok body)
  (hmin : 16 ≤ body.length)
include hm hu hmin

theorem frameStage_badCt (h8 : body.length % 8 ≠ 0) (s : State) :
    frameStage D (startCommand s) =
      raiseFatal ⟨.invalidCiphertextLength, .length (body.length - 8)⟩ (known body s) :=
  (frameStage_body hm hu _).trans (bodyStage_badCt (checkBody_long hmin) ((checkCt_bodyCt hmin).trans (if_pos h8)))

variable (h8 : body.length % 8 = 0)
include h8

/-- A datagram with a ciphertext of whole blocks reaches the key lookup. -/
theorem frameStage_keyStage (s : State) : frameStage D (startCommand s) = keyStage (known body s) :=
  (frameStage_body hm hu _).trans
    (bodyStage_identified (checkBody_long hmin) ((checkCt_bodyCt hmin).trans (if_neg (not_not.2 h8))))

theorem frameStage_keyRejected {s : State} {e : FatalError}
    (hk : checkKey (keyAnswer s (decString (bodyId body))) = .error e) :
    frameStage D (startCommand s) = raiseFatal e (asked (known body s)) :=
  (frameStage_keyStage hm hu hmin h8 s).trans (keyStage_rejected (by rw [keyAnswer_known, known_res, hk]))

variable {s : State} {key : List Byte} (hkey : keyAnswer s (decString (bodyId body)) = some key)
  (hlen : key.length = 16)
include hkey hlen

/-- With a 16-byte key it reaches the decryption. -/
theorem frameStage_decryptStage : frameStage D (startCommand s) = decryptStage key (asked (known body s)) :=
  (frameStage_keyStage hm hu hmin h8 s).trans
    (keyStage_answered (by rw [keyAnswer_known, known_res, hkey, checkKey_sound hlen]))

theorem frameStage_turnedAway (hr : s.rounds.toInt ≤ 0) :
    frameStage D (startCommand s) =
      raiseFatal ⟨.decryptFailed, .cause .roundsNotPositive⟩ (setStage .xtea (asked (known body s))) := by
  have ha : admission (roundsOf (asked (known body s))) (asked (known body s)).work.ct = some .roundsNotPositive := by
    rw [roundsOf_asked_known, admission, roundsOf, if_pos hr]
  exact (frameStage_decryptStage hm hu hmin h8 hkey hlen).trans (decryptStage_turnedAway ha key)

/-- Under a positive round count it reaches the check of the trailer. -/
theorem frameStage_crcStage (hr : 0 < s.rounds.toInt) (c : Cipher) :
    ∃ d, frameStage D (startCommand s) =
      crcStage (decrypted (ecb (decryptBlock (posRounds s)) (body.drop 8) key c).1 d (asked (known body s))) := by
  have ha : admission (roundsOf (asked (known body s))) (asked (known body s)).work.ct = none := by
    rw [roundsOf_asked_known, asked_work, known_ct, roundsOf, admission_bodyCt hr hmin h8]
  obtain ⟨d, hd⟩ := decryptStage_admitted ha key c
  rw [posRounds, roundsOf_asked_known, asked_work, known_ct, bodyCt] at hd
  exact ⟨d, (frameStage_decryptStage hm hu hmin h8 hkey hlen).trans hd⟩

end

/-- A ciphertext of whole blocks is as long as its plaintext (R109). -/
theorem ecb_length {bs : List Byte} (h : bs.length % 8 = 0) (blockFn : Cipher → Cipher) (key : List Byte) (c : Cipher) :
    (ecb blockFn bs key c).1.length = bs.length := by
  rw [ecb, ecbBlocks_length]
  exact Nat.div_mul_cancel (Nat.dvd_of_mod_eq_zero h)

/-- The plaintext of a body always has a trailer, so R146 cannot find it too short. -/
theorem plaintext_length {body : List Byte} (hmin : 16 ≤ body.length) (h8 : body.length % 8 = 0)
    (blockFn : Cipher → Cipher) (key : List Byte) (c : Cipher) :
    2 ≤ (ecb blockFn (body.drop 8) key c).1.length := by
  rw [ecb_length (by rw [List.length_drop]; omega), List.length_drop]
  omega

/-- Settles O54: each check is reached where those before it pass, and DEVID is the one result by then. -/
theorem decodeFailsAfterTheDeviceId : Obligations.DecodeFailsAfterTheDeviceId := by
  intro s D body hs h hf hl hu hmin id q
  have hm := checkFrame_sound h hf hl
  have hk := knowsId_known body s
  have hq := asked_known_keyRequests body s
  refine ⟨fun h8 => ?_, fun h8 => ⟨fun hnone => ?_, fun key hkey => ⟨fun hlen => ?_, fun hlen hr => ?_,
    fun pt c hlen hr hpt htrailer => ?_⟩⟩⟩
  · exact hk.endsWith_fatal hs (frameStage_badCt hm hu hmin h8 s) (known_stage body s) (known_keyRequests body s)
  · have hcheck : checkKey (keyAnswer s (decString id)) = .error ⟨.missingKeyForImei, .empty⟩ := by rw [hnone]; rfl
    exact hk.asked.endsWith_fatal hs (frameStage_keyRejected hm hu hmin h8 hcheck) rfl hq
  · have hcheck : checkKey (keyAnswer s (decString id)) = .error ⟨.invalidKeyLength, .length key.length⟩ := by
      rw [hkey, checkKey_wrongLength hlen]
    exact hk.asked.endsWith_fatal hs (frameStage_keyRejected hm hu hmin h8 hcheck) rfl hq
  · exact (hk.asked.setStage .xtea).endsWith_fatal hs (frameStage_turnedAway hm hu hmin h8 hkey hlen hr) rfl hq
  · obtain ⟨d, hd⟩ := frameStage_crcStage hm hu hmin h8 hkey hlen hr c
    rw [← hpt] at hd
    have hpt2 : 2 ≤ pt.length := hpt ▸ plaintext_length hmin h8 _ key c
    have hrej := crcStage_rejected (s := decrypted pt d (asked (known body s)))
      ((checkCrc_long _ hpt2).trans (if_pos htrailer))
    exact (hk.asked.decrypted pt d).checksummed.endsWith_fatal hs (hd.trans hrej) rfl hq

/-! ### Completion -/

/-- STATUS, results and STAGE where `payload_parse` ends a DECODE (R147 to R149). -/
theorem KnowsId.viewOf_payloadStage {d : BitVec 64} {s : State} (h : KnowsId d s) :
    let P := plainPayload s.work.pt
    let p := parse Config.params P
    viewOf (payloadStage s) =
      { status := { done := true, ok := true, frameOk := true, crcOk := true, devidValid := true }
        res := { outRes P with devid := d, padLen := p.padLen, recq := p.recq, warnq := p.warnq, errq := p.errq }
        stage := .payloadParse
        requests := s.keyRequests } := by
  simp [viewOf, payloadStage, runParse, outRes, Status.started, Status.withDevid, Status.payloadReached, Status.endOk,
    h.status, h.res, h.pending]

theorem payloadStage_walk (s : State) : (payloadStage s).walk = .idle := rfl

theorem payloadStage_off (s : State) : (payloadStage s).off = (parse Config.params (plainPayload s.work.pt)).off := rfl

/-- A command that reads its whole input ends as the end of that input shows, with the OFF it leaves. -/
theorem endsAt_of_inputEnd {i : Instr} {f : List Byte → State → State} {s : State} {bs : List Byte}
    {o : CommandView} {off : Nat} (hi : inputEnd i = some f) (hs : Ready s bs)
    (hv : viewOf (f bs (startCommand s)) = o) (hw : (f bs (startCommand s)).walk = .idle)
    (ho : (f bs (startCommand s)).off = off) : EndsAt i s o off :=
  ⟨_, (exec_inputEnd hi s).trans (runInput_ok hs.rest hs.input), kept_iff.2 (settings_inputEnd hi bs _), hv, hw, ho⟩

/-- Settles O52: every check passes, and `payload_parse` cannot fail. -/
theorem decodeCompletes : Obligations.DecodeCompletes := by
  intro s D body key pt c hs h hf hl hu hmin h8 hkey hlen hr hpt htrailer p
  obtain ⟨d, hd⟩ := frameStage_crcStage (checkFrame_sound h hf hl) hu hmin h8 hkey hlen hr c
  rw [← hpt] at hd
  have hpt2 : 2 ≤ pt.length := hpt ▸ plaintext_length hmin h8 _ key c
  have hpass := crcStage_sound (s := decrypted pt d (asked (known body s)))
    ((checkCrc_long _ hpt2).trans (if_neg (not_not.2 htrailer)))
  have hend := hd.trans hpass
  have hview := ((knowsId_known body s).asked.decrypted pt d).checksummed.viewOf_payloadStage
  rw [checksummed_keyRequests, decrypted_keyRequests, asked_known_keyRequests] at hview
  exact endsAt_of_inputEnd rfl hs ((congrArg viewOf hend).trans hview)
    ((congrArg State.walk hend).trans (payloadStage_walk _)) ((congrArg State.off hend).trans (payloadStage_off _))

/-! ### The key port -/

/-- What R143 speaks of: whether DEVID is valid, DEVID, and the requests made. -/
def portView (s : State) : Bool × BitVec 64 × List (List Byte) :=
  (s.status.devidValid, s.res.devid, s.keyRequests)

@[simp] theorem portView_setStage (st : Stage) (s : State) : portView (setStage st s) = portView s := rfl
@[simp] theorem portView_setPt (pt : List Byte) (s : State) : portView (setPt pt s) = portView s := rfl
@[simp] theorem portView_setObuf (bs : List Byte) (s : State) : portView (setObuf bs s) = portView s := rfl
@[simp] theorem portView_runCrc (bs : List Byte) (v : BitVec 16) (s : State) :
    portView (runCrc bs v s) = portView s := rfl
@[simp] theorem portView_markPayload (s : State) : portView (markPayload s) = portView s := rfl
@[simp] theorem portView_runParse (P : List Byte) (s : State) : portView (runParse P s) = portView s := rfl
@[simp] theorem portView_finishOk (s : State) : portView (finishOk s) = portView s := rfl
@[simp] theorem portView_raiseFatal (e : FatalError) (s : State) : portView (raiseFatal e s) = portView s := rfl

theorem portView_crcStage (s : State) : portView (crcStage s) = portView s := by
  simp only [crcStage]
  split <;> simp [payloadStage]

theorem portView_cipherRun {blockFn : Nat → Cipher → Cipher} {bs key y : List Byte} {s t : State}
    (h : cipherRun blockFn bs key s = .ok (y, t)) : portView t = portView s := by
  rcases cipherRun_cases blockFn bs key s with ⟨_, _, he⟩ | ⟨_, c, ho⟩
  · rw [he] at h; cases h
  · rw [ho] at h; cases h; rfl

theorem keyRequests_cipherRun {blockFn : Nat → Cipher → Cipher} {bs key y : List Byte} {s t : State}
    (h : cipherRun blockFn bs key s = .ok (y, t)) : t.keyRequests = s.keyRequests := by
  have hport := portView_cipherRun h
  simp only [portView, Prod.mk.injEq] at hport
  obtain ⟨-, -, hrequests⟩ := hport
  exact hrequests

theorem portView_decryptStage (key : List Byte) (s : State) : portView (decryptStage key s) = portView s := by
  simp only [decryptStage]
  split
  · simp
  · next pt u hc => simp [portView_crcStage, portView_cipherRun hc]

/-- The key lookup asks once, with the string of DEVID, and nothing after it asks again. -/
theorem portView_keyStage (s : State) : portView (keyStage s) = portView (asked s) := by
  simp only [keyStage]
  split
  · exact portView_raiseFatal _ _
  · exact portView_decryptStage _ _

/-- The one request of a DECODE: the string of the valid DEVID (R24, R143). -/
def AskedOnce (t : State) : Prop := t.status.devidValid = true ∧ t.keyRequests = [decString t.res.devid]

theorem askedOnce_congr {t u : State} (h : portView t = portView u) : AskedOnce t ↔ AskedOnce u := by
  simp only [portView, Prod.mk.injEq] at h
  obtain ⟨hvalid, hdevid, hrequests⟩ := h
  rw [AskedOnce, AskedOnce, hvalid, hdevid, hrequests]

theorem askedOnce_keyStage {s : State} (hv : s.status.devidValid = true) (hq : s.keyRequests = []) :
    AskedOnce (keyStage s) := by
  rw [askedOnce_congr (portView_keyStage s)]
  exact ⟨hv, by simp [asked, hq]⟩

/-- A DECODE whose body is turned away asks nothing; any other asks once. -/
theorem bodyStage_asks {s : State} (hq : s.keyRequests = []) :
    (bodyStage s).keyRequests = [] ∨ AskedOnce (bodyStage s) := by
  simp only [bodyStage]
  split
  · exact .inl hq
  · split
    · exact .inl (by simp [hq])
    · exact .inr (askedOnce_keyStage (by simp [Status.withDevid]) (by simp [hq]))

theorem frameStage_asks {s : State} (D : List Byte) (hq : s.keyRequests = []) :
    (frameStage D s).keyRequests = [] ∨ AskedOnce (frameStage D s) := by
  simp only [frameStage]
  split
  · exact .inl hq
  · split
    · exact .inl hq
    · exact bodyStage_asks hq

/-- Every other command that reads its whole input leaves the key port alone. -/
theorem keyRequests_inputEnd {i : Instr} {f : List Byte → State → State} (hi : inputEnd i = some f) (hd : i ≠ .decode)
    (bs : List Byte) (s : State) : (f bs s).keyRequests = s.keyRequests := by
  cases i <;> cases hi
  case decode => exact absurd rfl hd
  case xteaEnc | xteaDec =>
    unfold cipherEnd
    split
    · rfl
    · next hc => rw [finishOk_keyRequests, setObuf_keyRequests, keyRequests_cipherRun hc]
  case build =>
    unfold buildEnd
    split
    · rfl
    · next hc =>
      rw [finishOk_keyRequests, setObuf_keyRequests, setCt_keyRequests, keyRequests_cipherRun hc]
      rfl
  case unstuff => unfold unstuffEnd; split <;> rfl
  all_goals rfl

/-- Settles O55: the start of a command forgets earlier requests, and only `keyStage` makes one. -/
theorem theKeyPortIsAskedAtMostOnce : Obligations.TheKeyPortIsAskedAtMostOnce := by
  intro i s t hi h
  obtain ⟨-, ⟨f, bs, hf, -, rfl⟩ | ⟨d, -, -, -, rfl⟩ | rfl⟩ := command_next hi h
  · by_cases hd : i = .decode
    · subst hd
      cases hf
      exact (frameStage_asks bs rfl).imp_right fun hasked => ⟨rfl, hasked⟩
    · exact .inl (keyRequests_inputEnd hf hd bs _)
  · exact .inl rfl
  · exact .inl rfl

end Sys2Proof.Machine
end

section
/-! SUPPORT. The records of the PayloadDecoder at work (44_payload_decoder.md R160 to R172, R180): the bytes a chain of
reads takes before it answers, where it runs out of payload, and what a record instruction makes of either. -/

namespace Sys2Proof.Machine

open Sys2Proof.Claims

/-! ### Chains of reads -/

/-- OFF moved on by `n` bytes. -/
def ParseCtx.skip (n : Nat) (c : ParseCtx) : ParseCtx := { c with off := c.off + n }

@[simp] theorem ParseCtx.skip_off (n : Nat) (c : ParseCtx) : (c.skip n).off = c.off + n := rfl

@[simp] theorem ParseCtx.skip_zero (c : ParseCtx) : c.skip 0 = c := rfl

@[simp] theorem ParseCtx.skip_skip (m n : Nat) (c : ParseCtx) : (c.skip m).skip n = c.skip (m + n) := by
  simp only [ParseCtx.skip, Nat.add_assoc]

section
variable {α β : Type}

/-- Wherever `bs` stands at OFF, the reads `f` take those bytes and answer `a` (R162). -/
def ReadsThen (f : List Byte → ParseCtx → Got α) (bs : List Byte) (a : ParseCtx → Got α) : Prop :=
  ∀ (before rest : List Byte) (c : ParseCtx), c.off = before.length →
    f (before ++ bs ++ rest) c = a (c.skip bs.length)

/-- Wherever `done` stands at OFF with fewer than `need` bytes after it, the reads `f` take `done` and then fail for
want of `need` bytes (R162). -/
def RunsOut (f : List Byte → ParseCtx → Got α) (done : List Byte) (need : Nat) : Prop :=
  ∀ (before rest : List Byte) (c : ParseCtx), c.off = before.length → rest.length < need →
    f (before ++ done ++ rest) c = .failed ⟨(before ++ done).length, need, rest.length⟩ (c.skip done.length)

/-- An answer that reads nothing. -/
theorem readsThen_nil (a : ParseCtx → Got α) : ReadsThen (fun _ => a) [] a := fun _ _ _ _ => rfl

section
variable {f : List Byte → ParseCtx → Got α} {g : α → List Byte → ParseCtx → Got β} {bs more : List Byte} {v : α}
  {need : Nat}

/-- Reads after reads that succeed take the bytes of both. -/
theorem ReadsThen.andThen {a : ParseCtx → Got β} (hf : ReadsThen f bs (.got v)) (hg : ReadsThen (g v) more a) :
    ReadsThen (fun P c => (f P c).andThen fun u c => g u P c) (bs ++ more) a := by
  intro before rest c ho
  have h1 := hf before (more ++ rest) c ho
  have h2 := hg (before ++ bs) rest (c.skip bs.length) (by simp [ho])
  simp only [List.append_assoc, ParseCtx.skip_skip, List.length_append] at h1 h2 ⊢
  rw [h1, andThen_got, h2]

/-- Reads that succeed before reads that run out. -/
theorem ReadsThen.andThen_runsOut (hf : ReadsThen f bs (.got v)) (hg : RunsOut (g v) more need) :
    RunsOut (fun P c => (f P c).andThen fun u c => g u P c) (bs ++ more) need := by
  intro before rest c ho hr
  have h1 := hf before (more ++ rest) c ho
  have h2 := hg (before ++ bs) rest (c.skip bs.length) (by simp [ho]) hr
  simp only [List.append_assoc, ParseCtx.skip_skip, List.length_append] at h1 h2 ⊢
  rw [h1, andThen_got, h2]

/-- A chain whose first reads run out runs out there. -/
theorem RunsOut.andThen (hf : RunsOut f bs need) : RunsOut (fun P c => (f P c).andThen fun u c => g u P c) bs need :=
  fun before rest c ho hr => congrArg (Got.andThen · fun u c => g u _ c) (hf before rest c ho hr)

/-- Reads that succeed, and an answer made of their value. -/
theorem ReadsThen.answer {a : α → ParseCtx → Got β} (hf : ReadsThen f bs (.got v)) :
    ReadsThen (fun P c => (f P c).andThen (a · ·)) bs (a v) := by
  simpa only [List.append_nil] using hf.andThen (g := fun u _ => a u) (readsThen_nil (a v))

end

end

theorem rdN_readsThen {n : Nat} {bs : List Byte} (hn : bs.length = n) : ReadsThen (rdN n) bs (.got bs) :=
  fun _ _ _ ho => by rw [rdN_split ho hn.symm, ← hn]; rfl

theorem rd8_readsThen (b : Byte) : ReadsThen rd8 [b] (.got b) :=
  (rdN_readsThen (bs := [b]) rfl).answer (a := fun v : List Byte => Got.got (v.headD 0))

theorem rd32le_readsThen (v : Word) : ReadsThen rd32le (le32 v) (.got v) := by
  have h := (rdN_readsThen (le32_length v)).answer (a := fun v => .got (LE32 v))
  rwa [LE32_le32] at h

theorem rdN_runsOut (n : Nat) : RunsOut (rdN n) [] n := by
  intro before rest c ho hr
  rw [rdN_past (by simp [ho, hr]), ho]
  simp

theorem rd8_runsOut : RunsOut rd8 [] 1 := (rdN_runsOut 1).andThen

theorem rd32le_runsOut : RunsOut rd32le [] 4 := (rdN_runsOut 4).andThen

/-! ### Parameters and items (R163, R164, R170) -/

theorem readParam_readsThen (pid : Byte) {len : Byte} {data : List Byte} (h : data.length = len.toNat) :
    ReadsThen readParam ([pid, len] ++ data) (.got ⟨pid, len, data⟩) :=
  (rd8_readsThen pid).andThen ((rd8_readsThen len).andThen (rdN_readsThen h).answer)

theorem readParam_runsOut_paramId : RunsOut readParam [] 1 := rd8_runsOut.andThen

theorem readParam_runsOut_length (pid : Byte) : RunsOut readParam [pid] 1 :=
  (rd8_readsThen pid).andThen_runsOut rd8_runsOut.andThen

theorem readParam_runsOut_data (pid len : Byte) : RunsOut readParam [pid, len] len.toNat :=
  (rd8_readsThen pid).andThen_runsOut ((rd8_readsThen len).andThen_runsOut (rdN_runsOut len.toNat).andThen)

theorem ofNat_length_toNat {α : Type} {bs : List α} (h : bs.length ≤ 255) :
    (BitVec.ofNat 8 bs.length).toNat = bs.length := by
  rw [BitVec.toNat_ofNat]; omega

theorem readParam_itemBytes {x : Byte × List Byte} (h : x.2.length ≤ 255) :
    ReadsThen readParam (itemBytes x) (.got (itemOf x)) := readParam_readsThen x.1 (ofNat_length_toNat h).symm

theorem readItems_readsThen {xs : List (Byte × List Byte)} (h : ∀ x ∈ xs, x.2.length ≤ 255) :
    ReadsThen (readItems xs.length) (xs.flatMap itemBytes) (.got (xs.map itemOf)) := by
  induction xs with
  | nil => exact readsThen_nil _
  | cons x xs ih =>
    obtain ⟨hx, hxs⟩ := List.forall_mem_cons.1 h
    exact (readParam_itemBytes hx).andThen (ih hxs).answer

/-- The item loop runs out in the item after the complete ones. -/
theorem readItems_runsOut {n : Nat} {xs : List (Byte × List Byte)} {done : List Byte} {need : Nat}
    (hn : xs.length < n) (h : ∀ x ∈ xs, x.2.length ≤ 255) (hp : RunsOut readParam done need) :
    RunsOut (readItems n) (xs.flatMap itemBytes ++ done) need := by
  induction xs generalizing n with
  | nil =>
    obtain ⟨n, rfl⟩ := Nat.exists_eq_succ_of_ne_zero (by omega : n ≠ 0)
    exact hp.andThen
  | cons x xs ih =>
    obtain ⟨n, rfl⟩ := Nat.exists_eq_succ_of_ne_zero (by omega : n ≠ 0)
    obtain ⟨hx, hxs⟩ := List.forall_mem_cons.1 h
    rw [List.flatMap_cons, List.append_assoc]
    exact (readParam_itemBytes hx).andThen_runsOut (ih (Nat.lt_of_succ_lt_succ hn) hxs).andThen

/-! ### Record instructions -/

/-- The rule of `i` dispatches on the data id `id` to the reads `body` (R160). -/
def HasBody (i : Instr) (id : Byte) (body : List Byte → ParseCtx → Got Unit) : Prop :=
  recordRule Config.params i = some (dispatchRecord Config.params id body)

/-- A record, or padding, in a payload walk. -/
theorem exec_recordRule {i : Instr} {rule : List Byte → ParseCtx → ParseCtx} {s : State} {P : List Byte}
    (hr : recordRule Config.params i = some rule) (hw : s.walk = .records P) :
    exec i s = .next (afterRecord (rule P (parseCtx s)) s) := by
  have hi : i.space = .record := by cases i <;> cases hr <;> rfl
  obtain ⟨rule', hr', he⟩ := exec_record hi
  cases hr.symm.trans hr'
  rw [he, recordStep, hw]

section
variable {i : Instr} {id : Byte} {body : List Byte → ParseCtx → Got Unit} {s : State} {before : List Byte}

theorem dispatchRecord_got {par : Config.Params} {P : List Byte} {c c' : ParseCtx}
    (hb : body P (c.skip 1) = .got () c') : dispatchRecord par id body P c = c' := by
  unfold ParseCtx.skip at hb
  simp only [dispatchRecord, hb]

theorem dispatchRecord_failed {par : Config.Params} {P : List Byte} {c c' : ParseCtx} {f : LocalFail}
    (hb : body P (c.skip 1) = .failed f c') :
    dispatchRecord par id body P c = localFailure par.failPoint id c.off P f c' := by
  unfold ParseCtx.skip at hb
  simp only [dispatchRecord, hb]

/-- A record whose reads succeed leaves the state they lead to. -/
theorem exec_of_got {P : List Byte} {c : ParseCtx} (hi : HasBody i id body) (hw : s.walk = .records P)
    (hb : body P ((parseCtx s).skip 1) = .got () c) (hc : c.ended = false) : exec i s = .next (setParse c s) := by
  rw [exec_recordRule hi hw, dispatchRecord_got hb, afterRecord_going s hc]

/-- A record with a read that fails ends PARSE with the local failure's queues (R180), OFF at the end (log 12). -/
theorem endsAt_of_failed {P : List Byte} {f : LocalFail} {c : ParseCtx} (hi : HasBody i id body)
    (hw : s.walk = .records P) (hb : body P ((parseCtx s).skip 1) = .failed f c) :
    EndsAt i s
      (symbolEnd s s.status.endOk
        { s.res with
          padLen := c.padLen
          recq := c.recq ++ [.unknown id (P.drop f.pos)]
          warnq := c.warnq ++ [⟨.payloadParseError, none⟩]
          errq := c.errq ++ [⟨.payloadParse, .recordParseFailed, .parse id f.pos f.need f.avail⟩] })
      P.length := by
  refine ⟨finishOk (setParse (localFailure .readOffset id s.off P f c) s), ?_, kept_iff.2 rfl, rfl, rfl, rfl⟩
  rw [exec_recordRule hi hw, dispatchRecord_failed hb, afterRecord_ended s rfl]
  rfl

/-- A record with all its bytes is pushed, and OFF moves past it. -/
theorem exec_pushed {bs P : List Byte} (after : List Byte) {r : Record} {off : Nat} (hi : HasBody i id body)
    (hb : ReadsThen body bs (pushRecord r)) (ho : s.off = before.length) (hP : P = before ++ [id] ++ bs ++ after)
    (hoff : off = s.off + 1 + bs.length) (hw : s.walk = .records P) :
    exec i s = .next { s with off := off, res := pushed s r } := by
  subst hP hoff
  exact exec_of_got hi hw (hb (before ++ [id]) after _ (by simp [ho])) rfl

/-- A record whose reads run out degrades (R180). -/
theorem degrades_of_runsOut {done rest : List Byte} {need : Nat} (hi : HasBody i id body)
    (hb : RunsOut body done need) : Degrades i id done rest need := by
  intro s before hw ho hr
  have h := endsAt_of_failed hi hw (hb (before ++ [id]) rest _ (by simp [ho]) hr)
  rwa [List.drop_left] at h

end

/-! ### The kinds of fixed layout (R163, R164, R165, R167, R168) -/

/-- config_command and read_command (R163, R164): a parameter, then the record `mk` makes of it. -/
def paramBody (mk : Byte → Byte → List Byte → Record) (P : List Byte) (c : ParseCtx) : Got Unit :=
  (readParam P c).andThen fun x c => pushRecord (mk x.paramId x.length x.data) c

/-- config_response (R165). -/
def configResponseBody (P : List Byte) (c : ParseCtx) : Got Unit :=
  (rd8 P c).andThen fun pid c => (rd8 P c).andThen fun result c => pushRecord (.configResponse pid result) c

/-- archive_ack (R167). -/
def archiveAckBody (P : List Byte) (c : ParseCtx) : Got Unit :=
  (rd8 P c).andThen fun seq c => pushRecord (.archiveAck seq) c

/-- read_response (R168). -/
def readResponseBody (P : List Byte) (c : ParseCtx) : Got Unit :=
  (rd8 P c).andThen fun pid c => (rd8 P c).andThen fun result c => (rd8 P c).andThen fun len c =>
  (rdN len.toNat P c).andThen fun data c => pushRecord (.readResponse pid result len data) c

theorem hasBody_configCommand : HasBody .configCommand 0x01 (paramBody .configCommand) := rfl
theorem hasBody_readCommand : HasBody .readCommand 0x06 (paramBody .readCommand) := rfl
theorem hasBody_configResponse : HasBody .configResponse 0x02 configResponseBody := rfl
theorem hasBody_archiveAck : HasBody .archiveAck 0x04 archiveAckBody := rfl
theorem hasBody_readResponse : HasBody .readResponse 0x07 readResponseBody := rfl

theorem paramBody_readsThen (mk : Byte → Byte → List Byte → Record) (pid : Byte) {len : Byte} {data : List Byte}
    (h : data.length = len.toNat) : ReadsThen (paramBody mk) ([pid, len] ++ data) (pushRecord (mk pid len data)) :=
  (readParam_readsThen pid h).answer

theorem configResponseBody_readsThen (pid res : Byte) :
    ReadsThen configResponseBody [pid, res] (pushRecord (.configResponse pid res)) :=
  (rd8_readsThen pid).andThen (rd8_readsThen res).answer

theorem archiveAckBody_readsThen (seq : Byte) : ReadsThen archiveAckBody [seq] (pushRecord (.archiveAck seq)) :=
  (rd8_readsThen seq).answer

theorem readResponseBody_readsThen (pid res : Byte) {len : Byte} {data : List Byte} (h : data.length = len.toNat) :
    ReadsThen readResponseBody ([pid, res, len] ++ data) (pushRecord (.readResponse pid res len data)) :=
  (rd8_readsThen pid).andThen ((rd8_readsThen res).andThen ((rd8_readsThen len).andThen (rdN_readsThen h).answer))

/-- Settles O37: the reads of each kind take the bytes its layout names. -/
theorem fixedRecordsComplete : Obligations.FixedRecordsComplete := by
  intro s before after data pid res len seq ho hlen
  exact ⟨exec_pushed after hasBody_configCommand (paramBody_readsThen _ pid hlen) ho (by simp) (by simp [hlen]; omega),
    exec_pushed after hasBody_readCommand (paramBody_readsThen _ pid hlen) ho (by simp) (by simp [hlen]; omega),
    exec_pushed after hasBody_configResponse (configResponseBody_readsThen pid res) ho (by simp) (by simp),
    exec_pushed after hasBody_archiveAck (archiveAckBody_readsThen seq) ho (by simp) (by simp),
    exec_pushed after hasBody_readResponse (readResponseBody_readsThen pid res hlen) ho (by simp)
      (by simp [hlen]; omega)⟩

/-- Settles O42: the reads of each kind run out at each of them. -/
theorem cutRecordsDegrade : Obligations.CutRecordsDegrade := by
  intro a b len rest
  have hparam {i : Instr} {id : Byte} {mk : Byte → Byte → List Byte → Record} (hi : HasBody i id (paramBody mk)) :
      Degrades i id [] rest 1 ∧ Degrades i id [a] rest 1 ∧ Degrades i id [a, len] rest len.toNat :=
    ⟨degrades_of_runsOut hi readParam_runsOut_paramId.andThen,
      degrades_of_runsOut hi (readParam_runsOut_length a).andThen,
      degrades_of_runsOut hi (readParam_runsOut_data a len).andThen⟩
  refine ⟨?_, ⟨?_, ?_⟩, ?_, ?_, ?_, ?_, ?_⟩
  · simp only [List.forall_mem_cons]
    exact ⟨hparam hasBody_configCommand, hparam hasBody_readCommand, nofun⟩
  · exact degrades_of_runsOut hasBody_configResponse rd8_runsOut.andThen
  · exact degrades_of_runsOut hasBody_configResponse ((rd8_readsThen a).andThen_runsOut rd8_runsOut.andThen)
  · exact degrades_of_runsOut hasBody_archiveAck rd8_runsOut.andThen
  · exact degrades_of_runsOut hasBody_readResponse rd8_runsOut.andThen
  · exact degrades_of_runsOut hasBody_readResponse ((rd8_readsThen a).andThen_runsOut rd8_runsOut.andThen)
  · exact degrades_of_runsOut hasBody_readResponse
      ((rd8_readsThen a).andThen_runsOut ((rd8_readsThen b).andThen_runsOut rd8_runsOut.andThen))
  · exact degrades_of_runsOut hasBody_readResponse
      ((rd8_readsThen a).andThen_runsOut ((rd8_readsThen b).andThen_runsOut
        ((rd8_readsThen len).andThen_runsOut (rdN_runsOut len.toNat).andThen)))

/-! ### Telemetry (R170) -/

/-- The count, then that many items. -/
def telemetryBody (P : List Byte) (c : ParseCtx) : Got Unit :=
  (rd8 P c).andThen fun count c =>
  (readItems count.toNat P c).andThen fun items c => pushRecord (.telemetry count items) c

theorem hasBody_telemetry : HasBody .telemetry 0x09 telemetryBody := rfl

/-- Settles O38: the item loop takes as many items as the count tells. -/
theorem telemetryCompletes : Obligations.TelemetryCompletes := by
  intro s before after xs ho hn hx hw
  have hitems := readItems_readsThen hx
  rw [← ofNat_length_toNat hn] at hitems
  have hbody : ReadsThen telemetryBody (BitVec.ofNat 8 xs.length :: xs.flatMap itemBytes)
      (pushRecord (.telemetry (BitVec.ofNat 8 xs.length) (xs.map itemOf))) := (rd8_readsThen _).andThen hitems.answer
  exact exec_pushed after hasBody_telemetry hbody ho (by simp) (by simp; omega) hw

/-- Settles O43: the record is dropped wherever the count or an item runs out. -/
theorem cutTelemetryDropsItsItems : Obligations.CutTelemetryDropsItsItems := by
  intro count a len xs rest hn hx
  have hcut {done : List Byte} {need : Nat} (hp : RunsOut readParam done need) :
      Degrades .telemetry 0x09 (count :: xs.flatMap itemBytes ++ done) rest need :=
    degrades_of_runsOut hasBody_telemetry
      ((rd8_readsThen count).andThen_runsOut (readItems_runsOut hn hx hp).andThen)
  refine ⟨degrades_of_runsOut hasBody_telemetry rd8_runsOut.andThen, ?_, hcut (readParam_runsOut_length a),
    hcut (readParam_runsOut_data a len)⟩
  have h := hcut readParam_runsOut_paramId
  rwa [List.append_nil] at h

/-! ### The kinds that take the rest (R169, R171, R172) -/

/-- auth (R169). -/
def authBody (P : List Byte) (c : ParseCtx) : Got Unit := (rdRest P c).andThen fun blob c => pushRecord (.auth blob) c

theorem hasBody_auth : HasBody .auth 0x08 authBody := rfl

theorem hasBody_extended : ∀ r ∈ extendedIds,
    HasBody r.1 r.2 (takeRest (.rtu800Extended r.2) .rtu800ExtendedId r.2) := by
  simp only [extendedIds, List.forall_mem_cons]
  exact ⟨rfl, rfl, rfl, rfl, rfl, nofun⟩

theorem hasBody_unknown (x : Byte) : ∀ r ∈ unknownIds x,
    HasBody r.1 r.2 (takeRest (.unknown r.2) .unknownDataId r.2) := by
  simp only [unknownIds, List.forall_mem_cons]
  exact ⟨rfl, rfl, rfl, rfl, rfl, rfl, rfl, nofun⟩

section
variable {i : Instr} {id : Byte} {s : State} {before : List Byte}

theorem rdRest_afterTag (raw : List Byte) (ho : s.off = before.length) :
    rdRest (before ++ [id] ++ raw) ((parseCtx s).skip 1) =
      .got raw { parseCtx s with off := (before ++ [id] ++ raw).length } := by
  rw [rdRest, ParseCtx.skip_off, parseCtx_off, ho, List.drop_left' (by simp)]
  rfl

/-- A kind that takes the rest pushes it with its warning and its error, which name the tag byte's offset. -/
theorem exec_takeRest {r : List Byte → Record} {reason : NfReason} {raw : List Byte} (ho : s.off = before.length)
    (hi : HasBody i id (takeRest r reason id)) (hw : s.walk = .records (before ++ [id] ++ raw)) :
    exec i s = .next { s with
      off := (before ++ [id] ++ raw).length
      res := pushedWith s (r raw) ⟨reason.warnTag, some id⟩ ⟨.payloadParse, reason, .dataId id before.length⟩ } := by
  have hb : takeRest r reason id (before ++ [id] ++ raw) ((parseCtx s).skip 1) =
      .got () (({ parseCtx s with off := (before ++ [id] ++ raw).length }.record (r raw)).anomaly reason (some id)
        (.dataId id before.length)) := by
    rw [takeRest, rdRest_afterTag raw ho, andThen_got, ParseCtx.skip_off, Nat.add_sub_cancel, parseCtx_off, ho]
  exact (exec_of_got hi hw hb rfl).trans rfl

end

/-- Settles O40: the unchecked read takes what follows the tag byte. -/
theorem restTakingRecordsComplete : Obligations.RestTakingRecordsComplete := by
  refine fun s before raw ho => ⟨fun hw => ?_, fun r hr => exec_takeRest ho (hasBody_extended r hr),
    fun x r hr => exec_takeRest ho (hasBody_unknown x r hr)⟩
  have hb : authBody (before ++ [0x08] ++ raw) ((parseCtx s).skip 1) =
      .got () ({ parseCtx s with off := (before ++ [0x08] ++ raw).length }.record (.auth raw)) := by
    rw [authBody, rdRest_afterTag raw ho]; rfl
  exact (exec_of_got hasBody_auth hw hb rfl).trans rfl

/-! ### Archives (R166, R205) -/

/-- The sequence number, then the events up to the padding. -/
def archiveBody (P : List Byte) (c : ParseCtx) : Got Unit :=
  (rd8 P c).andThen fun seq c =>
  (readEvents Config.params P.length P c).andThen fun evs c => pushRecord (.archive seq evs) c

theorem hasBody_archive : HasBody .archive 0x03 archiveBody := rfl

theorem allZero_append (xs ys : List Byte) : allZero (xs ++ ys) = (allZero xs && allZero ys) := List.all_append

theorem allZero_zeros (n : Nat) : allZero (zeros n) = true := by simp [allZero, zeros]

/-- Events of which the last, with what follows it, is not all zero are no padding. -/
theorem allZero_events {vs : List RawEvent} {rest : List Byte} (hvs : vs ≠ [])
    (hz : ∀ v, vs.getLast? = some v → allZero (eventBytes v ++ rest) = false) :
    allZero (vs.flatMap eventBytes ++ rest) = false := by
  have hlast := hz _ (List.getLast?_eq_some_getLast hvs)
  rw [← List.dropLast_append_getLast hvs, List.flatMap_append, List.append_assoc, allZero_append]
  simp [hlast]

theorem length_le_flatMap_eventBytes (vs : List RawEvent) : vs.length ≤ (vs.flatMap eventBytes).length := by
  induction vs with
  | nil => exact le_rfl
  | cons v vs ih => simp [eventBytes]; omega

section
variable (par : Config.Params)

/-- What `readEvent` answers once it has read an event with the data `d` (R31, R205). -/
def eventAnswer (code : Byte) (time : Word) (len : Byte) (d : List Byte) (c : ParseCtx) : Got ArchiveEvent :=
  let e := parseEntries par d c.warnq c.errq
  .got ⟨code, time, len, e.entries⟩ { c with warnq := e.warnq, errq := e.errq }

theorem readEvent_readsThen {v : RawEvent} (h : v.data.length ≤ 255) :
    ReadsThen (readEvent par) (eventBytes v)
      (eventAnswer par v.code v.time (BitVec.ofNat 8 v.data.length) v.data) := by
  have hdata := (rdN_readsThen (ofNat_length_toNat h).symm).answer
    (a := eventAnswer par v.code v.time (BitVec.ofNat 8 v.data.length))
  have hread : ReadsThen (readEvent par)
      ([v.code] ++ (le32 v.time ++ ([BitVec.ofNat 8 v.data.length] ++ v.data))) _ :=
    (rd8_readsThen v.code).andThen ((rd32le_readsThen v.time).andThen ((rd8_readsThen _).andThen hdata))
  simpa only [eventBytes, List.append_assoc] using hread

theorem readEvent_runsOut_time (code : Byte) : RunsOut (readEvent par) [code] 4 :=
  (rd8_readsThen code).andThen_runsOut rd32le_runsOut.andThen

theorem readEvent_runsOut_length (code : Byte) (time : Word) : RunsOut (readEvent par) (code :: le32 time) 1 := by
  have h : RunsOut (readEvent par) ([code] ++ (le32 time ++ [])) 1 :=
    (rd8_readsThen code).andThen_runsOut ((rd32le_readsThen time).andThen_runsOut rd8_runsOut.andThen)
  rwa [List.append_nil] at h

theorem readEvent_runsOut_data (code : Byte) (time : Word) (len : Byte) :
    RunsOut (readEvent par) (code :: le32 time ++ [len]) len.toNat :=
  (rd8_readsThen code).andThen_runsOut ((rd32le_readsThen time).andThen_runsOut
    ((rd8_readsThen len).andThen_runsOut (rdN_runsOut len.toNat).andThen))

/-- The event loop's context after the events `vs`. -/
def eventsCtx (vs : List RawEvent) (c : ParseCtx) : ParseCtx :=
  { c with
    off := c.off + (vs.flatMap eventBytes).length
    warnq := (eventsOf par vs c.warnq c.errq).2.1
    errq := (eventsOf par vs c.warnq c.errq).2.2 }

theorem eventsCtx_cons (v : RawEvent) (vs : List RawEvent) (c : ParseCtx) :
    eventsCtx par (v :: vs) c = eventsCtx par vs (eventsCtx par [v] c) := by
  simp [eventsCtx, eventsOf, Nat.add_assoc]

/-- The event loop at padding, or at the end of the payload. -/
theorem readEvents_padding {fuel : Nat} {P : List Byte} {c : ParseCtx} (h : atPadding P c.off = true) :
    readEvents par fuel P c = .got [] c := by
  cases fuel with
  | zero => rfl
  | succ fuel => rw [readEvents, if_pos h]

/-- One turn of the event loop. -/
theorem readEvents_turn {fuel : Nat} {P : List Byte} {c : ParseCtx} (h : atPadding P c.off = false) :
    readEvents par (fuel + 1) P c = (readEvent par P c).andThen fun ev c =>
      (readEvents par fuel P c).andThen fun evs => .got (ev :: evs) := by
  rw [readEvents, if_neg (by simp [h])]

/-- The event loop reads complete events up to a remainder that is padding or a cut event (R166). -/
theorem readEvents_events {vs : List RawEvent} {before rest : List Byte} {c : ParseCtx} (fuel : Nat)
    (ho : c.off = before.length) (hlen : ∀ v ∈ vs, v.data.length ≤ 255)
    (hz : ∀ v, vs.getLast? = some v → allZero (eventBytes v ++ rest) = false) :
    readEvents par (vs.length + fuel) (before ++ vs.flatMap eventBytes ++ rest) c =
      (readEvents par fuel (before ++ vs.flatMap eventBytes ++ rest) (eventsCtx par vs c)).andThen
        fun evs => .got ((eventsOf par vs c.warnq c.errq).1 ++ evs) := by
  induction vs generalizing before c with
  | nil =>
    have hc : eventsCtx par [] c = c := rfl
    rw [hc, List.length_nil, Nat.zero_add]
    cases readEvents par fuel (before ++ [].flatMap eventBytes ++ rest) c <;> rfl
  | cons v vs ih =>
    obtain ⟨hv, hvs⟩ := List.forall_mem_cons.1 hlen
    have hpad : atPadding (before ++ (v :: vs).flatMap eventBytes ++ rest) c.off = false := by
      rw [atPadding, ho, List.append_assoc, List.drop_left]
      exact allZero_events (List.cons_ne_nil v vs) hz
    have hread := readEvent_readsThen par hv before (vs.flatMap eventBytes ++ rest) c ho
    have htail := ih (before := before ++ eventBytes v) (c := eventsCtx par [v] c) (by simp [eventsCtx, ho]) hvs
      fun w hw => hz w (by simp [List.getLast?_cons, hw])
    rw [List.length_cons, Nat.add_right_comm, readEvents_turn par hpad, eventsCtx_cons]
    simp only [List.flatMap_cons, List.append_assoc] at hread htail ⊢
    have hctx : eventAnswer par v.code v.time (BitVec.ofNat 8 v.data.length) v.data (c.skip (eventBytes v).length) =
        .got ⟨v.code, v.time, BitVec.ofNat 8 v.data.length, (parseEntries par v.data c.warnq c.errq).entries⟩
          (eventsCtx par [v] c) := by
      simp [eventAnswer, eventsCtx, eventsOf, ParseCtx.skip]
    rw [hread, hctx, andThen_got, htail]
    cases readEvents par fuel _ (eventsCtx par vs (eventsCtx par [v] c)) <;> rfl

end

section
variable {s : State} {before rest : List Byte} {vs : List RawEvent}

theorem eventsCtx_off (seq : Byte) (ho : s.off = before.length) :
    (eventsCtx Config.params vs ((parseCtx s).skip 2)).off =
      (before ++ [0x03, seq] ++ vs.flatMap eventBytes).length := by
  simp only [eventsCtx, ParseCtx.skip_off, parseCtx_off, ho, List.length_append, List.length_cons, List.length_nil]

/-- The reads of an archive, from the end of its complete events on. -/
theorem archiveBody_events (seq : Byte) (ho : s.off = before.length) (hlen : ∀ v ∈ vs, v.data.length ≤ 255)
    (hz : ∀ v, vs.getLast? = some v → allZero (eventBytes v ++ rest) = false) :
    let P := before ++ [0x03, seq] ++ vs.flatMap eventBytes ++ rest
    ∃ fuel, archiveBody P ((parseCtx s).skip 1) =
      (readEvents Config.params (fuel + 1) P (eventsCtx Config.params vs ((parseCtx s).skip 2))).andThen fun evs =>
        pushRecord (.archive seq ((eventsOf Config.params vs s.res.warnq s.res.errq).1 ++ evs)) := by
  intro P
  have hfuel := length_le_flatMap_eventBytes vs
  refine ⟨P.length - vs.length - 1, ?_⟩
  have hP : P.length = vs.length + (P.length - vs.length - 1 + 1) := by
    simp only [P, List.length_append, List.length_cons]; omega
  have hseq := rd8_readsThen seq (before ++ [0x03]) (vs.flatMap eventBytes ++ rest) ((parseCtx s).skip 1) (by simp [ho])
  have hev := readEvents_events Config.params (before := before ++ [0x03, seq]) (c := (parseCtx s).skip 2)
    (P.length - vs.length - 1 + 1) (by simp [ho]) hlen hz
  rw [← hP] at hev
  have htag : rd8 P ((parseCtx s).skip 1) = .got seq ((parseCtx s).skip 2) := by simpa [P] using hseq
  rw [archiveBody, htag, andThen_got, hev]
  cases readEvents Config.params _ P (eventsCtx Config.params vs ((parseCtx s).skip 2)) <;> rfl

/-- An archive cut in the event after its complete events, at a read of `need` bytes after `done`. -/
theorem archiveCut_of_runsOut (seq : Byte) {done read : List Byte} {need : Nat}
    (hp : RunsOut (readEvent Config.params) done need) (ho : s.off = before.length)
    (hlen : ∀ v ∈ vs, v.data.length ≤ 255) (hz : allZero (done ++ rest) = false) (hneed : rest.length < need)
    (hread : read = before ++ [0x03, seq] ++ vs.flatMap eventBytes ++ done) : ArchiveCut s vs read rest need := by
  intro hw
  subst hread
  have hpad : atPadding (before ++ [0x03, seq] ++ vs.flatMap eventBytes ++ done ++ rest)
      (eventsCtx Config.params vs ((parseCtx s).skip 2)).off = false := by
    rw [atPadding, eventsCtx_off seq ho, List.append_assoc _ done, List.drop_left]
    exact hz
  have hev := hp (before ++ [0x03, seq] ++ vs.flatMap eventBytes) rest
    (eventsCtx Config.params vs ((parseCtx s).skip 2)) (eventsCtx_off seq ho) hneed
  obtain ⟨fuel, hb⟩ := archiveBody_events (rest := done ++ rest) seq ho hlen
    fun v _ => by rw [allZero_append, hz, Bool.and_false]
  rw [← List.append_assoc, readEvents_turn _ hpad, hev] at hb
  have h := endsAt_of_failed hasBody_archive hw hb
  rwa [List.drop_left] at h

end

/-- Settles O39: the event loop stops at the padding after the last event. -/
theorem archiveCompletes : Obligations.ArchiveCompletes := by
  intro s before seq vs n ho hlen hz hw
  obtain ⟨fuel, hb⟩ := archiveBody_events (rest := zeros n) seq ho hlen
    fun v hv => by rw [allZero_append, hz v hv, Bool.false_and]
  have hpad : atPadding (before ++ [0x03, seq] ++ vs.flatMap eventBytes ++ zeros n)
      (eventsCtx Config.params vs ((parseCtx s).skip 2)).off = true := by
    rw [atPadding, eventsCtx_off seq ho, List.drop_left]
    exact allZero_zeros n
  rw [readEvents_padding _ hpad, andThen_got, List.append_nil] at hb
  exact (exec_of_got hasBody_archive hw hb rfl).trans rfl

/-- Settles O44: the sequence number, or the event after the complete ones, runs out. -/
theorem cutArchiveKeepsItsAnomalies : Obligations.CutArchiveKeepsItsAnomalies := by
  intro s before rest seq code len time vs ho hlen read
  refine ⟨fun hw => ?_, fun hr hz => ?_, fun hz => ?_, fun hr => ?_⟩
  · have hb : RunsOut archiveBody [] 1 := rd8_runsOut.andThen
    have h := degrades_of_runsOut (rest := []) hasBody_archive hb s before (by simpa using hw) ho Nat.zero_lt_one
    simp only [List.append_nil] at h ⊢
    exact h
  · exact archiveCut_of_runsOut seq (readEvent_runsOut_time _ code) ho hlen hz hr rfl
  · exact archiveCut_of_runsOut seq (readEvent_runsOut_length _ code time) ho hlen (by simpa using hz) Nat.zero_lt_one
      (by simp [read])
  · refine archiveCut_of_runsOut seq (readEvent_runsOut_data _ code time len) ho hlen ?_ hr (by simp [read])
    have hne : len ≠ 0#8 := fun h => by simp [h] at hr
    simp [allZero, hne]

/-! ### Padding, and the command PARSE (R160, R161) -/

/-- An all-zero remainder reads as PAD (R161). -/
theorem decode_record_allZero {bs : List Byte} (hne : bs ≠ []) (hz : allZero bs = true) :
    decode .record bs = .ok .pad := by
  obtain ⟨b, rest, rfl⟩ := List.exists_cons_of_ne_nil hne
  have h : (b == 0 && allZero rest) = true := hz
  simp only [decode, h, if_true]

/-- Settles O41: `rulePad` stops the walk with the bytes left. -/
theorem paddingEndsTheWalk : Obligations.PaddingEndsTheWalk := by
  intro s before n hn hw ho
  refine ⟨?_, finishOk (setParse (rulePad (before ++ zeros n) (parseCtx s)) s), ?_, kept_iff.2 rfl, ?_, rfl, rfl⟩
  · rw [ho, List.drop_left]
    exact decode_record_allZero (by simp [zeros]; omega) (allZero_zeros n)
  · rw [exec_recordRule rfl hw, afterRecord_ended s rfl]
  · have hpad : (rulePad (before ++ zeros n) (parseCtx s)).padLen = n := by simp [rulePad, ho, zeros]
    simp only [viewOf, finishOk_status, finishOk_res, setParse_res, hpad]
    rfl

/-- Settles O36: PARSE is `parseEnd` on its input. -/
theorem parseCompletes : Obligations.ParseCompletes := fun _ _ hs => endsAt_of_inputEnd rfl hs rfl rfl rfl

end Sys2Proof.Machine
end

section
/-! SUPPORT. What comes last in the queues of a payload walk (30_encoding.md R71; 44_payload_decoder.md R181, R183),
for every event table and either point of failure: a record that runs to the end of the payload, and a local parse
failure. -/

namespace Sys2Proof.Machine

open Sys2Proof.Claims

/-! ### Walks that go on, and walks that are over -/

/-- No local parse failure among the errors. -/
def Unfailed (e : List NfError) : Prop := ∀ x ∈ e, x.reason ≠ .recordParseFailed

theorem Unfailed.concat {e : List NfError} {x : NfError} (h : Unfailed e) (hx : x.reason ≠ .recordParseFailed) :
    Unfailed (e ++ [x]) := by
  simpa [Unfailed, or_imp, forall_and] using ⟨h, hx⟩

/-- Neither queue holds yet what only comes last. -/
structure ParseCtx.Open (c : ParseCtx) : Prop where
  recq : ∀ r ∈ c.recq, runsToEnd r = false
  errq : Unfailed c.errq

/-- The walk has stopped, or has nothing but padding ahead (R161). -/
def ParseCtx.Over (P : List Byte) (c : ParseCtx) : Prop := c.ended = true ∨ atPadding P c.off = true

/-- What only comes last stands last in the queues, and only once the walk is over. -/
structure ParseCtx.Ordered (P : List Byte) (c : ParseCtx) : Prop where
  recq : ∀ r ∈ c.recq.dropLast, runsToEnd r = false
  errq : Unfailed c.errq.dropLast
  openOrOver : c.Open ∨ c.Over P

theorem atPadding_end {P : List Byte} {n : Nat} (h : P.length ≤ n) : atPadding P n = true := by
  rw [atPadding, List.drop_eq_nil_of_le h]; rfl

section
variable {P : List Byte} {c : ParseCtx}

theorem ParseCtx.Open.ordered (h : c.Open) : c.Ordered P :=
  ⟨fun r hr => h.recq r (List.mem_of_mem_dropLast hr), fun x hx => h.errq x (List.mem_of_mem_dropLast hx), .inl h⟩

/-- A record that others may follow. -/
theorem ParseCtx.Open.record {r : Record} (h : c.Open) (hr : runsToEnd r = false) : (c.record r).Open :=
  ⟨by simpa [ParseCtx.record, or_imp, forall_and] using ⟨h.recq, hr⟩, h.errq⟩

/-- Any record as the last one of its walk, with at most one more error. -/
theorem ParseCtx.Open.last {c' : ParseCtx} {r : Record} (h : c.Open) (ho : c'.Over P) (hr : c'.recq = c.recq ++ [r])
    (he : Unfailed c'.errq.dropLast) : c'.Ordered P :=
  ⟨by rw [hr, List.dropLast_concat]; exact h.recq, he, .inr ho⟩

theorem ParseCtx.Open.lastRecord (h : c.Open) (ho : c.Over P) (r : Record) : (c.record r).Ordered P :=
  h.last ho rfl (h.ordered (P := P)).errq

/-- R180: the failed record and its error come last. -/
theorem localFailure_ordered (h : c.Open) (fp : Config.FailPoint) (id : Byte) (tagOff : Nat) (f : LocalFail) :
    (localFailure fp id tagOff P f c).Ordered P :=
  h.last (.inl rfl) rfl (by simpa [localFailure, ParseCtx.record, ParseCtx.anomaly] using h.errq)

end

/-! ### Event entries -/

/-- Every entry is read by `readEntry`. -/
theorem entryRule_eq_readEntry {par : Config.Params} {i : Instr} {rule : List Byte → EntryCtx → EntryCtx}
    (h : entryRule par i = some rule) : ∃ t len, rule = readEntry t len := by
  cases i <;> cases h
  case entryType0 => exact ⟨0x00, some .four, rfl⟩
  case entryType20 => exact ⟨0x14, some .one, rfl⟩
  all_goals exact ⟨_, _, rfl⟩

theorem readEntry_unfailed {d : List Byte} {c : EntryCtx} (t : Byte) (len : Option Config.EvtLen)
    (h : Unfailed c.errq) : Unfailed (readEntry t len d c).errq := by
  cases len with
  | none => exact h.concat nofun
  | some l =>
    rcases Nat.lt_or_ge d.length (c.p + 1 + l.toNat) with hcut | hall
    · rw [readEntry_cut hcut]; exact h.concat nofun
    · rw [readEntry_value hall]; exact h

theorem entryLoop_unfailed {par : Config.Params} {d : List Byte} {c : EntryCtx} (fuel : Nat) (h : Unfailed c.errq) :
    Unfailed (entryLoop par fuel d c).errq := by
  induction fuel generalizing c with
  | zero => exact h
  | succ fuel ih =>
    unfold entryLoop
    split
    · exact h
    · split
      · exact h
      · split
        · exact h
        · next rule hr =>
          obtain ⟨t, len, rfl⟩ := entryRule_eq_readEntry hr
          exact ih (readEntry_unfailed t len h)

/-! ### The reads -/

/-- A read leaves a context with `Q`, or fails in an open one. -/
def Leaves {α : Type} (Q : ParseCtx → Prop) : Got α → Prop
  | .got _ c => Q c
  | .failed _ c => c.Open

theorem Leaves.andThen {α β : Type} {Q R : ParseCtx → Prop} {g : Got α} {k : α → ParseCtx → Got β} (hg : Leaves Q g)
    (hk : ∀ v c, Q c → Leaves R (k v c)) : Leaves R (g.andThen k) := by
  cases g with
  | got v c => exact hk v c hg
  | failed f c => exact hg

/-- The queues are open, and OFF is `n` or more. -/
structure OpenFrom (n : Nat) (c : ParseCtx) : Prop where
  isOpen : c.Open
  off : n ≤ c.off

section
variable {par : Config.Params} {P : List Byte} {c : ParseCtx} {m : Nat}

theorem rdN_leaves {k n : Nat} (h : OpenFrom m c) (hk : k ≤ m + n) : Leaves (OpenFrom k) (rdN n P c) := by
  obtain ⟨hopen, hoff⟩ := h
  unfold rdN
  split
  · exact hopen
  · exact ⟨⟨hopen.recq, hopen.errq⟩, show k ≤ c.off + n by omega⟩

theorem rd8_leaves (h : OpenFrom m c) : Leaves (OpenFrom (m + 1)) (rd8 P c) :=
  (rdN_leaves h le_rfl).andThen fun _ _ => id

theorem rd32le_leaves (h : OpenFrom m c) : Leaves (OpenFrom (m + 4)) (rd32le P c) :=
  (rdN_leaves h le_rfl).andThen fun _ _ => id

theorem rdRest_leaves (h : OpenFrom m c) : Leaves (OpenFrom P.length) (rdRest P c) :=
  ⟨⟨h.isOpen.recq, h.isOpen.errq⟩, le_rfl⟩

theorem readParam_leaves (h : OpenFrom m c) : Leaves (OpenFrom m) (readParam P c) :=
  (rd8_leaves h).andThen fun _ _ h => (rd8_leaves h).andThen fun _ _ h =>
    (rdN_leaves h (by omega)).andThen fun _ _ => id

theorem readItems_leaves (n : Nat) (h : OpenFrom m c) : Leaves (OpenFrom m) (readItems n P c) := by
  induction n generalizing c with
  | zero => exact h
  | succ n ih => exact (readParam_leaves h).andThen fun _ _ h => (ih h).andThen fun _ _ => id

theorem readEvent_leaves (h : OpenFrom m c) : Leaves (OpenFrom (m + 1)) (readEvent par P c) :=
  (rd8_leaves h).andThen fun _ _ h => (rd32le_leaves h).andThen fun _ _ h => (rd8_leaves h).andThen fun _ _ h =>
    (rdN_leaves h (by omega)).andThen fun _ _ h =>
      ⟨⟨h.isOpen.recq, entryLoop_unfailed _ h.isOpen.errq⟩, h.off⟩

/-- With fuel for every byte left, the event loop stops only at padding (R166). -/
theorem readEvents_leaves {fuel : Nat} (h : OpenFrom m c) (hf : P.length ≤ m + fuel) :
    Leaves (fun c => c.Open ∧ c.Over P) (readEvents par fuel P c) := by
  induction fuel generalizing m c with
  | zero => exact ⟨h.isOpen, .inr (atPadding_end (hf.trans h.off))⟩
  | succ fuel ih =>
    unfold readEvents
    split
    · next hpad => exact ⟨h.isOpen, .inr hpad⟩
    · exact (readEvent_leaves h).andThen fun _ _ h => (ih h (by omega)).andThen fun _ _ => id

/-! ### The rule of each record kind -/

/-- A record that others may follow, as the last action of its kind. -/
theorem pushRecord_leaves {r : Record} (h : OpenFrom m c) (hr : runsToEnd r = false) :
    Leaves (·.Ordered P) (pushRecord r c) := (h.isOpen.record hr).ordered

theorem takeRest_leaves {r : List Byte → Record} {reason : NfReason} {id : Byte} (hr : reason ≠ .recordParseFailed)
    (h : c.Open) : Leaves (·.Ordered P) (takeRest r reason id P c) := by
  refine h.last (.inr (atPadding_end le_rfl)) rfl fun x hx => ?_
  exact h.errq.concat (x := ⟨.payloadParse, reason, .dataId id (c.off - 1)⟩) hr x (List.mem_of_mem_dropLast hx)

theorem dispatchRecord_ordered {id : Byte} {body : List Byte → ParseCtx → Got Unit} (h : c.Open)
    (hb : ∀ {c : ParseCtx}, OpenFrom 0 c → Leaves (·.Ordered P) (body P c)) :
    (dispatchRecord par id body P c).Ordered P := by
  have hl := hb (c := { c with off := c.off + 1 }) ⟨⟨h.recq, h.errq⟩, Nat.zero_le _⟩
  unfold dispatchRecord
  split
  · next hg => rwa [hg] at hl
  · next hg => rw [hg] at hl; exact localFailure_ordered hl ..

theorem extendedRecord_ordered (id : Byte) (h : c.Open) : (extendedRecord par id P c).Ordered P :=
  dispatchRecord_ordered h fun h => takeRest_leaves nofun h.isOpen

theorem unknownRecord_ordered (id : Byte) (h : c.Open) : (unknownRecord par id P c).Ordered P :=
  dispatchRecord_ordered h fun h => takeRest_leaves nofun h.isOpen

/-- Every record of an open walk leaves the queues ordered. -/
theorem recordRule_ordered {i : Instr} {rule : List Byte → ParseCtx → ParseCtx} (hr : recordRule par i = some rule)
    (h : c.Open) : (rule P c).Ordered P := by
  cases i <;> cases hr
  case pad => exact ParseCtx.Open.ordered ⟨h.recq, h.errq⟩
  case configCommand | readCommand =>
    exact dispatchRecord_ordered h fun h => (readParam_leaves h).andThen fun _ _ h => pushRecord_leaves h rfl
  case configResponse =>
    exact dispatchRecord_ordered h fun h => (rd8_leaves h).andThen fun _ _ h => (rd8_leaves h).andThen fun _ _ h =>
      pushRecord_leaves h rfl
  case archive =>
    exact dispatchRecord_ordered h fun h => (rd8_leaves h).andThen fun _ _ h =>
      (readEvents_leaves h (by omega)).andThen fun evs _ ⟨h, ho⟩ => h.lastRecord ho (.archive _ evs)
  case archiveAck =>
    exact dispatchRecord_ordered h fun h => (rd8_leaves h).andThen fun _ _ h => pushRecord_leaves h rfl
  case readResponse =>
    exact dispatchRecord_ordered h fun h => (rd8_leaves h).andThen fun _ _ h => (rd8_leaves h).andThen fun _ _ h =>
      (rd8_leaves h).andThen fun _ _ h => (rdN_leaves h (Nat.zero_le _)).andThen fun _ _ h => pushRecord_leaves h rfl
  case auth =>
    exact dispatchRecord_ordered h fun h => (rdRest_leaves h).andThen fun blob _ h =>
      h.isOpen.lastRecord (.inr (atPadding_end h.off)) (.auth blob)
  case telemetry =>
    exact dispatchRecord_ordered h fun h => (rd8_leaves h).andThen fun _ _ h => (readItems_leaves _ h).andThen
      fun _ _ h => pushRecord_leaves h rfl
  case rtu800Extended10 | rtu800Extended11 | rtu800Extended12 | rtu800Extended13 | rtu800Extended14 =>
    exact extendedRecord_ordered _ h
  all_goals exact unknownRecord_ordered _ h

/-! ### The walk -/

/-- A walk that is over and reads on reads padding, which pushes nothing (R161). -/
theorem recordRule_over {i : Instr} {rule : List Byte → ParseCtx → ParseCtx} (hr : recordRule par i = some rule)
    (hd : decode .record (P.drop c.off) = .ok i) (hpad : atPadding P c.off = true) : rule = rulePad := by
  obtain ⟨-, -, hne⟩ := decode_ok hd
  cases hd.symm.trans (decode_record_allZero hne hpad)
  cases hr
  rfl

theorem parseLoop_ordered (fuel : Nat) (h : c.Ordered P) : (parseLoop par fuel P c).Ordered P := by
  induction fuel generalizing c with
  | zero => exact h
  | succ fuel ih =>
    unfold parseLoop
    split
    · exact h
    · next hgoing =>
      split
      · exact h
      · next i hd =>
        split
        · exact h
        · next rule hr =>
          refine ih ?_
          rcases h.openOrOver with hopen | hended | hpad
          · exact recordRule_ordered hr hopen
          · exact absurd hended hgoing
          · rw [recordRule_over hr hd hpad]
            exact ⟨h.recq, h.errq, .inr (.inl rfl)⟩

end

theorem parse_ordered (par : Config.Params) (P : List Byte) : (parse par P).Ordered P :=
  parseLoop_ordered _ (ParseCtx.Open.ordered ⟨nofun, nofun⟩)

/-- What stands before another element is not the last. -/
theorem mem_dropLast_of_append {α : Type} {xs ys : List α} {x : α} (h : ys ≠ []) : x ∈ (xs ++ x :: ys).dropLast := by
  rw [List.dropLast_append_of_ne_nil (List.cons_ne_nil x ys), List.dropLast_cons_of_ne_nil h]
  simp

/-- Settles O46: the walk keeps its queues ordered. -/
theorem whatEndsTheWalkComesLast : Obligations.WhatEndsTheWalkComesLast := by
  intro par P
  have h := parse_ordered par P
  refine ⟨fun xs r ys hq hr => ?_, fun xs e ys hq he => ?_⟩ <;> by_contra hys
  · exact absurd (h.recq r (hq ▸ mem_dropLast_of_append hys)) (by simp [hr])
  · exact h.errq e (hq ▸ mem_dropLast_of_append hys) he

end Sys2Proof.Machine
end

section
/-! SUPPORT. The EventDataParser (45_event_parser.md R201 to R204): the table EVT_LEN, the rule of each type id, what the
parser makes of entries packed end to end, and each entry as an instruction. -/

namespace Sys2Proof.Machine

open Sys2Proof.Claims

/-! ### The event table (R201) -/

/-- Taking one element out and putting it in front only reorders the list. -/
theorem perm_take_one_drop {α : Type} (l : List α) (k : Nat) :
    ((l.drop k).take 1 ++ (l.take k ++ l.drop (k + 1))).Perm l := by
  have hrest : l.drop (k + 1) = (l.drop k).drop 1 := (List.drop_drop ..).symm
  rw [hrest]
  refine (List.perm_append_comm_assoc ..).trans ?_
  rw [List.take_append_drop, List.take_append_drop]

section
variable (pick : Nat → Nat)

/-- The ids picked are different elements of the list. -/
theorem pickIds_subperm (n : Nat) (ids : List Byte) : (Config.pickIds pick n ids).Subperm ids := by
  induction n generalizing ids with
  | zero => exact List.nil_subperm
  | succ n ih =>
    exact ((List.subperm_append_left _).2 (ih _)).trans (perm_take_one_drop ids (pick n % ids.length)).subperm

/-- From a list that is long enough, as many ids are picked as are asked for. -/
theorem pickIds_length {n : Nat} {ids : List Byte} (h : n ≤ ids.length) : (Config.pickIds pick n ids).length = n := by
  induction n generalizing ids with
  | zero => rfl
  | succ n ih =>
    have hk : pick n % ids.length < ids.length := Nat.mod_lt _ (Nat.zero_lt_of_lt h)
    rw [Config.pickIds, List.length_append, ih] <;>
      simp only [List.length_append, List.length_take, List.length_drop] <;> omega

end

/-- The 256 type ids. -/
def typeIds : List Byte := (List.range 256).map (BitVec.ofNat 8)

theorem mem_typeIds (t : Byte) : t ∈ typeIds :=
  List.mem_map.2 ⟨t.toNat, List.mem_range.2 t.isLt, by simp⟩

theorem typeIds_nodup : typeIds.Nodup := by
  refine List.nodup_range.map_on fun m hm n hn h => ?_
  have hmod : m % 256 = n % 256 := congrArg BitVec.toNat h
  rwa [Nat.mod_eq_of_lt (List.mem_range.1 hm), Nat.mod_eq_of_lt (List.mem_range.1 hn)] at hmod

theorem typeIds_length : typeIds.length = 256 := by rw [typeIds, List.length_map, List.length_range]

theorem mem_evtOtherIds_iff (t : Byte) : t ∈ Config.evtOtherIds ↔ t ≠ 0 ∧ t ≠ 20 :=
  (List.mem_filter (as := typeIds)).trans (by simp [mem_typeIds])

/-- The two ids whose entries R201 gives, before different other ones. -/
theorem nodup_fixed_cons {ids : List Byte} (hd : ids.Nodup) (h : ids ⊆ Config.evtOtherIds) :
    (0 :: 20 :: ids : List Byte).Nodup := by
  have hother : ∀ t ∈ ids, t ≠ 0 ∧ t ≠ 20 := fun t ht => (mem_evtOtherIds_iff t).1 (h ht)
  simp only [List.nodup_cons, List.mem_cons, not_or]
  exact ⟨⟨by decide, fun h0 => (hother 0 h0).1 rfl⟩, fun h20 => (hother 20 h20).2 rfl, hd⟩

theorem evtOtherIds_nodup : Config.evtOtherIds.Nodup := typeIds_nodup.filter _

theorem evtOtherIds_length : Config.evtOtherIds.length = 254 := by
  have hperm : (0 :: 20 :: Config.evtOtherIds).Perm typeIds :=
    (List.perm_ext_iff_of_nodup (nodup_fixed_cons evtOtherIds_nodup (List.Subset.refl _)) typeIds_nodup).2 fun t => by
      simp only [List.mem_cons, mem_evtOtherIds_iff, mem_typeIds, iff_true]
      tauto
  simpa using hperm.length_eq.trans typeIds_length

/-- The ids that have an EVT_LEN entry (R201 1 and 3). -/
def knownIds : List Byte := 0 :: 20 :: Config.evtIds

theorem mem_knownIds_iff (t : Byte) : t ∈ knownIds ↔ (Config.evtLen t).isSome = true := by
  simp only [knownIds, List.mem_cons, Config.evtLen]
  split_ifs <;> simp_all

theorem knownIds_length : knownIds.length = 52 :=
  congrArg (· + 2) (pickIds_length Config.evtPick (by rw [evtOtherIds_length]; omega))

theorem knownIds_nodup : knownIds.Nodup := by
  have hsub := pickIds_subperm Config.evtPick 50 Config.evtOtherIds
  have hids : Config.evtIds.Nodup := by
    obtain ⟨ids, hperm, hids⟩ := hsub
    exact hperm.nodup_iff.1 (evtOtherIds_nodup.sublist hids)
  exact nodup_fixed_cons hids hsub.subset

/-- Settles O32: the ids with an entry are, up to their order, the known ones, which are 52 different ids. -/
theorem eventTableHasItsConstraints : Obligations.EventTableHasItsConstraints := by
  refine ⟨?_, fun _ l _ => evtLen_one_or_four l, evtLen_zero, evtLen_twenty⟩
  have hperm : (typeIds.filter fun t => (Config.evtLen t).isSome).Perm knownIds :=
    (List.perm_ext_iff_of_nodup (typeIds_nodup.filter _) knownIds_nodup).2 fun t => by
      simp only [List.mem_filter, mem_typeIds, true_and, mem_knownIds_iff]
  calc (List.range 256).countP (fun n => (Config.evtLen (BitVec.ofNat 8 n)).isSome)
      = typeIds.countP fun t => (Config.evtLen t).isSome := by rw [typeIds, List.countP_map]; rfl
    _ = knownIds.length := List.countP_eq_length_filter.trans hperm.length_eq
    _ = 52 := knownIds_length

/-! ### One entry (R202, R203, R204) -/

/-- The walk after an entry that stops it: the entry takes the bytes `rest` after its type id (R203, R204). -/
def EntryCtx.marked (c : EntryCtx) (t : Byte) (st : EntryStatus) (rest : List Byte) (r : NfReason) (d : NfDetail) :
    EntryCtx :=
  { c.anomaly r t d with
    p := c.p + 1
    entries := c.entries ++ [⟨t, st, rest⟩]
    ended := true }

/-- Past a type id the rest of the data stands. -/
theorem drop_typeId (before rest : List Byte) (t : Byte) : (before ++ t :: rest).drop (before.length + 1) = rest :=
  List.drop_length_add_append 1

section
variable {before rest : List Byte} {t : Byte} {l : Config.EvtLen} {c : EntryCtx}

theorem readEntry_value_at (hp : c.p = before.length) (h : l.toNat ≤ rest.length) :
    readEntry t (some l) (before ++ t :: rest) c =
      { c with
        entries := c.entries ++ [⟨t, .value, rest.take l.toNat⟩]
        p := before.length + 1 + l.toNat } := by
  have hslice : slice (before ++ t :: rest) (c.p + 1) (c.p + 1 + l.toNat) = rest.take l.toNat := by
    rw [slice, List.drop_take, Nat.add_sub_cancel_left, hp, drop_typeId]
  rw [readEntry_value (by simp; omega), hslice, hp]

theorem readEntry_cut_at (hp : c.p = before.length) (h : rest.length < l.toNat) :
    readEntry t (some l) (before ++ t :: rest) c =
      c.marked t .lenMismatch rest .eventTypeLenMismatch (.typeLen t l.toNat rest.length) := by
  have hdrop : (before ++ t :: rest).drop (c.p + 1) = rest := by rw [hp, drop_typeId]
  have hlen : (before ++ t :: rest).length - (c.p + 1) = rest.length := by rw [← List.length_drop, hdrop]
  rw [readEntry_cut (by simp; omega), lenMismatch, hdrop, hlen]
  rfl

theorem readEntry_unknown_at (hp : c.p = before.length) :
    readEntry t none (before ++ t :: rest) c =
      c.marked t .unknown rest .unknownTypeId (.typeId t before.length) := by
  have hdrop : (before ++ t :: rest).drop (c.p + 1) = rest := by rw [hp, drop_typeId]
  rw [readEntry_unknown, unknownType, hdrop, Nat.add_sub_cancel, ← hp]
  rfl

end

/-! ### The rule of each type id (R201, R202) -/

/-- A row that compares the whole byte covers one byte. -/
theorem eq_of_covers_whole {r : Row8} (hm : r.mask = 0xFF) {t : Byte} (h : r.covers t = true) : t = r.pat := by
  rw [Row8.covers, hm, beq_iff_eq] at h
  exact BitVec.and_allOnes.symm.trans h

/-- The row that covers a type id makes the instruction listed for it. -/
theorem mem_entryTypes_of_row (t : Byte) : ∀ r ∈ entryRows, r.covers t = true → (r.make t, t) ∈ entryTypes t := by
  simp only [entryRows, List.forall_mem_cons]
  refine ⟨?_, ?_, ?_, ?_, ?_, ?_, ?_, ?_, ?_, ?_, ?_, ?_, ?_, nofun⟩ <;> intro h
  case refine_1 | refine_2 | refine_3 | refine_8 => cases eq_of_covers_whole rfl h; decide
  all_goals simp [entryTypes]

section
variable {par : Config.Params} (h0 : par.evtLen 0 = some .four) (h20 : par.evtLen 20 = some .one)
include h0 h20

/-- The rule of each listed type reads its id with that id's EVT_LEN entry. -/
theorem entryRule_of_entryTypes (x : Byte) : ∀ r ∈ entryTypes x,
    r.1.space = .entry ∧ entryRule par r.1 = some (readEntry r.2 (par.evtLen r.2)) := by
  simp only [entryTypes, List.forall_mem_cons]
  refine ⟨⟨rfl, ?_⟩, ⟨rfl, ?_⟩, ⟨rfl, rfl⟩, ⟨rfl, rfl⟩, ⟨rfl, rfl⟩, ⟨rfl, rfl⟩, ⟨rfl, rfl⟩, ⟨rfl, rfl⟩, ⟨rfl, rfl⟩,
    ⟨rfl, rfl⟩, ⟨rfl, rfl⟩, ⟨rfl, rfl⟩, ⟨rfl, rfl⟩, nofun⟩
  · exact congrArg (fun len => some (readEntry 0x00 len)) h0.symm
  · exact congrArg (fun len => some (readEntry 0x14 len)) h20.symm

/-- Every type id opens an entry, read with that id's EVT_LEN entry. -/
theorem entryRule_of_typeId (t : Byte) (rest : List Byte) :
    ∃ i, decode .entry (t :: rest) = .ok i ∧ entryRule par i = some (readEntry t (par.evtLen t)) := by
  obtain ⟨i, hd, -, -⟩ := decode_found .entry t rest
  obtain ⟨r, hr, hc⟩ : ∃ r ∈ entryRows, r.covers t = true := by
    cases hf : entryRows.find? (·.covers t) with
    | none => simp [decode, lookup8, hf, orNoRow] at hd
    | some r => exact ⟨r, List.mem_of_find?_eq_some hf, by simpa using List.find?_some hf⟩
  refine ⟨r.make t, ?_, (entryRule_of_entryTypes h0 h20 t _ (mem_entryTypes_of_row t r hr hc)).2⟩
  rw [decode, lookup8_of_covers entryRows_disjoint hr hc, orNoRow]

/-- One turn of the loop at a type id. -/
theorem entryLoop_typeId {fuel : Nat} {before rest : List Byte} {t : Byte} {c : EntryCtx} (he : c.ended = false)
    (hp : c.p = before.length) :
    entryLoop par (fuel + 1) (before ++ t :: rest) c =
      entryLoop par fuel (before ++ t :: rest) (readEntry t (par.evtLen t) (before ++ t :: rest) c) := by
  obtain ⟨i, hd, hr⟩ := entryRule_of_typeId h0 h20 t rest
  exact entryLoop_turn he (by rw [hp, List.drop_left]; exact hd) hr

end

/-! ### Entries packed end to end -/

/-- The bytes of a complete entry: type id, value (R73). -/
def valueBytes (x : Byte × List Byte) : List Byte := x.1 :: x.2

/-- The entry those bytes stand for (R32). -/
def valueEntry (x : Byte × List Byte) : EventEntry := ⟨x.1, .value, x.2⟩

/-- Every entry has as many value bytes as EVT_LEN tells for its type id. -/
def CompleteEntries (par : Config.Params) (xs : List (Byte × List Byte)) : Prop :=
  ∀ x ∈ xs, ∃ l, par.evtLen x.1 = some l ∧ x.2.length = l.toNat

/-- The walk after the complete entries `xs`. -/
def EntryCtx.afterValues (c : EntryCtx) (xs : List (Byte × List Byte)) : EntryCtx :=
  { c with
    p := c.p + (xs.flatMap valueBytes).length
    entries := c.entries ++ xs.map valueEntry }

@[simp] theorem afterValues_p (c : EntryCtx) (xs : List (Byte × List Byte)) :
    (c.afterValues xs).p = c.p + (xs.flatMap valueBytes).length := rfl

theorem afterValues_nil (c : EntryCtx) : c.afterValues [] = c := by simp [EntryCtx.afterValues]

theorem afterValues_afterValues (c : EntryCtx) (xs ys : List (Byte × List Byte)) :
    (c.afterValues xs).afterValues ys = c.afterValues (xs ++ ys) := by
  simp [EntryCtx.afterValues, Nat.add_assoc]

/-- An entry with all its value bytes is read as one complete entry. -/
theorem readEntry_complete {x : Byte × List Byte} {l : Config.EvtLen} {before rest : List Byte} {c : EntryCtx}
    (hp : c.p = before.length) (hlen : x.2.length = l.toNat) :
    readEntry x.1 (some l) (before ++ (valueBytes x ++ rest)) c = c.afterValues [x] := by
  rw [valueBytes, List.cons_append, readEntry_value_at hp (by simp [hlen]), ← hlen, List.take_left]
  simp [EntryCtx.afterValues, valueBytes, valueEntry, hp]
  omega

theorem length_le_flatMap_valueBytes (xs : List (Byte × List Byte)) : xs.length ≤ (xs.flatMap valueBytes).length := by
  induction xs with
  | nil => exact le_rfl
  | cons x xs ih => simp only [List.flatMap_cons, List.length_append, List.length_cons, valueBytes]; omega

section
variable {par : Config.Params} (h0 : par.evtLen 0 = some .four) (h20 : par.evtLen 20 = some .one)
variable {xs : List (Byte × List Byte)} (hx : CompleteEntries par xs)
include h0 h20 hx

/-- Complete entries are read one by one, a turn for each. -/
theorem entryLoop_values {fuel : Nat} {before rest : List Byte} {c : EntryCtx} (he : c.ended = false)
    (hp : c.p = before.length) :
    entryLoop par (fuel + xs.length) (before ++ (xs.flatMap valueBytes ++ rest)) c =
      entryLoop par fuel (before ++ (xs.flatMap valueBytes ++ rest)) (c.afterValues xs) := by
  induction xs generalizing before c with
  | nil => rw [afterValues_nil, List.length_nil, Nat.add_zero]
  | cons x xs ih =>
    obtain ⟨⟨l, hl, hlen⟩, hxs⟩ := List.forall_mem_cons.1 hx
    have hd : before ++ ((x :: xs).flatMap valueBytes ++ rest) =
        before ++ valueBytes x ++ (xs.flatMap valueBytes ++ rest) := by simp
    have hturn : entryLoop par (fuel + xs.length + 1) (before ++ valueBytes x ++ (xs.flatMap valueBytes ++ rest)) c =
        entryLoop par (fuel + xs.length) (before ++ valueBytes x ++ (xs.flatMap valueBytes ++ rest))
          (c.afterValues [x]) := by
      rw [List.append_assoc, ← readEntry_complete (rest := xs.flatMap valueBytes ++ rest) hp hlen, ← hl]
      exact entryLoop_typeId h0 h20 he hp
    rw [hd, List.length_cons, ← Nat.add_assoc, hturn, ih (c := c.afterValues [x]) hxs he (by simp [hp]),
      afterValues_afterValues]
    rfl

/-- The parser goes on where the complete entries at the front of its data end. -/
theorem parseEntries_values (rest : List Byte) (w : List Warning) (e : List NfError) :
    ∃ fuel, rest.length < fuel ∧ parseEntries par (xs.flatMap valueBytes ++ rest) w e =
      entryLoop par fuel (xs.flatMap valueBytes ++ rest) (EntryCtx.afterValues { warnq := w, errq := e } xs) := by
  obtain ⟨n, hn⟩ := Nat.exists_eq_add_of_le (length_le_flatMap_valueBytes xs)
  have hfuel : (xs.flatMap valueBytes ++ rest).length + 1 = n + rest.length + 1 + xs.length := by
    rw [List.length_append]; omega
  refine ⟨n + rest.length + 1, by omega, ?_⟩
  rw [parseEntries, hfuel]
  exact entryLoop_values h0 h20 hx (before := []) rfl rfl

theorem parseEntries_complete (w : List Warning) (e : List NfError) :
    parseEntries par (xs.flatMap valueBytes) w e = EntryCtx.afterValues { warnq := w, errq := e } xs := by
  obtain ⟨fuel, -, h⟩ := parseEntries_values h0 h20 hx [] w e
  rw [List.append_nil] at h
  exact h.trans (entryLoop_stopped (.inr (Nat.le_add_left _ _)))

/-- A type id whose entry stops the walk is the last one read. -/
theorem parseEntries_marked {t : Byte} {st : EntryStatus} {rest : List Byte} {r : NfReason} {nd : NfDetail}
    (h : ∀ c : EntryCtx, c.p = (xs.flatMap valueBytes).length →
      readEntry t (par.evtLen t) (xs.flatMap valueBytes ++ t :: rest) c = c.marked t st rest r nd)
    (w : List Warning) (e : List NfError) :
    parseEntries par (xs.flatMap valueBytes ++ t :: rest) w e =
      (EntryCtx.afterValues { warnq := w, errq := e } xs).marked t st rest r nd := by
  have hp : (EntryCtx.afterValues { warnq := w, errq := e } xs).p = (xs.flatMap valueBytes).length := by simp
  obtain ⟨_ | fuel, hfuel, hparse⟩ := parseEntries_values h0 h20 hx (t :: rest) w e
  · cases hfuel
  · rw [hparse, entryLoop_typeId h0 h20 rfl hp, h _ hp, entryLoop_stopped (.inl rfl)]

end

/-- Settles O33: the parser goes through the complete entries, and the entry after them stops it. -/
theorem entriesAreReadInOrder : Obligations.EntriesAreReadInOrder := by
  intro par xs w e h0 h20 hx d es
  have hd : d = xs.flatMap valueBytes := rfl
  refine ⟨?_, fun t rest ht => ?_, fun t l rest ht hl => ?_⟩
  · rw [hd, parseEntries_complete h0 h20 hx]
    exact ⟨rfl, rfl, rfl⟩
  · rw [hd, parseEntries_marked h0 h20 hx (fun c hp => by rw [ht, readEntry_unknown_at hp])]
    exact ⟨rfl, rfl, rfl⟩
  · rw [hd, parseEntries_marked h0 h20 hx (fun c hp => by rw [ht, readEntry_cut_at hp hl])]
    exact ⟨rfl, rfl, rfl⟩

/-! ### Each entry as an instruction -/

/-- An entry in an entry walk. -/
theorem exec_entryRule {i : Instr} {rule : List Byte → EntryCtx → EntryCtx} {s : State} {d : List Byte} {p : Nat}
    {es : List EventEntry} (hi : i.space = .entry) (hr : entryRule Config.params i = some rule)
    (hw : s.walk = .entries d p es) : exec i s = .next (afterEntry d (rule d (entryCtx p es s)) s) := by
  obtain ⟨rule', hr', he⟩ := exec_entry hi
  cases hr.symm.trans hr'
  rw [he, entryStep, hw]

/-- An entry that stops the walk ends EVPARSE with its mark and its anomaly, OFF as it stands (log 12). -/
theorem endsAt_of_marked {i : Instr} {s : State} {d rest : List Byte} {p : Nat} {es : List EventEntry} {t : Byte}
    {st : EntryStatus} {r : NfReason} {nd : NfDetail}
    (h : exec i s = .next (afterEntry d ((entryCtx p es s).marked t st rest r nd) s)) :
    EndsAt i s (symbolEnd s s.status.endOk
      (evparseRes s d.length (es ++ [⟨t, st, rest⟩]) (s.res.warnq ++ [⟨r.warnTag, some t⟩])
        (s.res.errq ++ [⟨.payloadParse, r, nd⟩]))) s.off :=
  ⟨_, h.trans (congrArg _ (afterEntry_ended s rfl)), kept_iff.2 rfl, rfl, rfl, rfl⟩

/-- Settles O35: each entry instruction is one turn of the loop at the cursor. -/
theorem entrySymbolsComplete : Obligations.EntrySymbolsComplete := by
  intro x r s before rest es hr hw
  obtain ⟨hi, hrule⟩ := entryRule_of_entryTypes (par := Config.params) evtLen_zero evtLen_twenty x r hr
  have hexec : exec r.1 s = .next (afterEntry _ (readEntry r.2 (Config.evtLen r.2) _ _) s) := exec_entryRule hi hrule hw
  have hp : (entryCtx before.length es s).p = before.length := rfl
  cases hlen : Config.evtLen r.2 with
  | none =>
    rw [hlen, readEntry_unknown_at hp] at hexec
    exact endsAt_of_marked hexec
  | some l =>
    rw [hlen] at hexec
    refine ⟨fun hall => ?_, fun hcut => ?_⟩
    · rw [hexec, readEntry_value_at hp hall, afterEntry_going s rfl]
      rfl
    · rw [readEntry_cut_at hp hcut] at hexec
      exact endsAt_of_marked hexec

end Sys2Proof.Machine
end

section
/-! SUPPORT. The FrameBuilder (46_frame_builder.md R216 to R221): the padding and trailer of a plaintext, the parts of a
frame, the commands PREP, FRAME and BUILD, and DECODE of what BUILD makes. -/

namespace Sys2Proof.Machine

open Sys2Proof.Claims

/-! ### The plaintext -/

theorem padCount_lt (n : Nat) : padCount n < 8 := Nat.mod_lt _ (by decide)

/-- The padding makes the length with the trailer a multiple of 8 (R216). -/
theorem padCount_fills (n : Nat) : (n + padCount n + 2) % 8 = 0 := by
  unfold padCount
  omega

/-- No shorter padding does (R216). -/
theorem padCount_le {n j : Nat} (h : (n + j + 2) % 8 = 0) : padCount n ≤ j := by
  unfold padCount
  omega

theorem preparePlaintext_length (x : List Byte) :
    (preparePlaintext x).length = x.length + padCount x.length + 2 := by
  simp [preparePlaintext, padPayload, zeros, add_assoc]

/-- A prepared plaintext is whole blocks (R216). -/
theorem preparePlaintext_length_mod (x : List Byte) : (preparePlaintext x).length % 8 = 0 := by
  rw [preparePlaintext_length, padCount_fills]

/-- A prepared plaintext is a positive number of whole blocks, so the cipher admits it (R106). -/
theorem admission_preparePlaintext {n : Int} (hn : 0 < n) (x : List Byte) : admission n (preparePlaintext x) = none :=
  admit_none.2 ⟨hn, by rw [preparePlaintext_length]; omega, preparePlaintext_length_mod x⟩

/-- The trailer begins where the padded payload ends. -/
theorem preparePlaintext_length_sub_two (x : List Byte) :
    (preparePlaintext x).length - 2 = (padPayload x).length := by
  simp [preparePlaintext]

theorem plainPayload_preparePlaintext (x : List Byte) : plainPayload (preparePlaintext x) = padPayload x := by
  rw [plainPayload, preparePlaintext_length_sub_two]
  exact List.take_left' rfl

/-- The trailer reads back as the checksum it was made of (R7, R217). -/
theorem plainTrailer_preparePlaintext (x : List Byte) :
    plainTrailer (preparePlaintext x) = crc16 (padPayload x) Config.crcDefault := by
  rw [plainTrailer, preparePlaintext_length_sub_two, preparePlaintext, List.drop_left' rfl, LE16_le16]

/-- A prepared plaintext passes the checksum test (R217). -/
theorem checkCrc_preparePlaintext (x : List Byte) :
    checkCrc (preparePlaintext x) (crc16 (plainPayload (preparePlaintext x)) Config.crcDefault) = none := by
  have hlen : 2 ≤ (preparePlaintext x).length := by rw [preparePlaintext_length]; omega
  rw [checkCrc_long _ hlen, plainTrailer_preparePlaintext, plainPayload_preparePlaintext]
  exact if_neg (not_not.2 rfl)

/-- The two worked examples of R216, their checksums round by round. -/
theorem preparePlaintext_workedExamples :
    preparePlaintext [] = [0, 0, 0, 0, 0, 0, 0x10, 0x0E] ∧
    preparePlaintext [0x04, 0x07] = [0x04, 0x07, 0, 0, 0, 0, 0x65, 0x6F] := by
  obtain ⟨hempty, hack⟩ : crc16 (padPayload []) Config.crcDefault = 0x0E10 ∧
      crc16 (padPayload [0x04, 0x07]) Config.crcDefault = 0x6F65 := by
    constructor <;>
      simp [padPayload, padCount, zeros, crc16, crcByte, crcShifts, crcShift, Config.crcPoly, Config.crcDefault]
  constructor
  · rw [preparePlaintext, hempty]
    rfl
  · rw [preparePlaintext, hack]
    rfl

/-! ### The frame -/

theorem buildFrame_length (d : BitVec 64) (e : List Byte) :
    (buildFrame d e).length = (stuff (le64 d ++ e)).length + 2 := by
  rw [buildFrame, List.append_assoc, List.length_append, List.length_append, List.length_singleton,
    List.length_singleton]
  omega

theorem two_le_buildFrame_length (d : BitVec 64) (e : List Byte) : 2 ≤ (buildFrame d e).length := by
  rw [buildFrame_length]
  omega

theorem buildFrame_head? (d : BitVec 64) (e : List Byte) : (buildFrame d e).head? = some Config.START := rfl

theorem buildFrame_getLast? (d : BitVec 64) (e : List Byte) : (buildFrame d e).getLast? = some Config.END :=
  List.getLast?_concat

/-- The interior of a frame is what stands between its markers (R138, R218). -/
theorem interior_buildFrame (d : BitVec 64) (e : List Byte) : interior (buildFrame d e) = stuff (le64 d ++ e) := by
  have hend : (buildFrame d e).length - 1 = 1 + (stuff (le64 d ++ e)).length := by rw [buildFrame_length]; omega
  rw [interior, hend]
  exact slice_middle [Config.START] (stuff (le64 d ++ e)) [Config.END]

theorem checkFrame_buildFrame (d : BitVec 64) (e : List Byte) : checkFrame (buildFrame d e) = none :=
  checkFrame_sound (two_le_buildFrame_length d e) (buildFrame_head? d e) (buildFrame_getLast? d e)

/-- Device id and body stand unchanged under the stuffing (R219). -/
theorem unstuff_interior_buildFrame (d : BitVec 64) (e : List Byte) :
    unstuff (interior (buildFrame d e)) = .ok (le64 d ++ e) := by rw [interior_buildFrame, unstuff_stuff]

theorem bodyDevid_le64_append (d : BitVec 64) (e : List Byte) : bodyDevid (le64 d ++ e) = d := by
  rw [bodyDevid, slice_append_left (le64_length d), LE64_le64]

theorem bodyCt_le64_append (d : BitVec 64) (e : List Byte) : bodyCt (le64 d ++ e) = e := List.drop_left' (le64_length d)

/-- A frame without body holds the 8 bytes of the device id, each stuffed to one or two, and the markers (R218). -/
theorem buildFrame_nil_length (d : BitVec 64) :
    10 ≤ (buildFrame d []).length ∧ (buildFrame d []).length ≤ 18 := by
  have hstuff := stuff_length (le64 d ++ [])
  refine ⟨?_, buildFrame_length_le d []⟩
  rw [buildFrame_length, hstuff, List.append_nil, le64_length]
  omega

/-! ### The commands PREP and FRAME -/

/-- Settles O47: `padCount` is the least padding, and PREP is `prepEnd` on its input. -/
theorem prepCompletes : Obligations.PrepCompletes :=
  ⟨decodeReadsBackEncode .prep [] rfl rfl,
    fun _ bs hs => ⟨padCount bs.length, padCount_lt _, padCount_fills _, fun _ => padCount_le,
      fun h => Nat.le_zero.1 (padCount_le (by omega)), endsWith_of_inputEnd rfl hs rfl rfl⟩,
    preparePlaintext_workedExamples⟩

/-- Settles O48: FRAME is `obufEnd` on its input. -/
theorem frameCompletes : Obligations.FrameCompletes :=
  ⟨decodeReadsBackEncode .frame [] rfl rfl, fun _ _ hs => endsWith_of_inputEnd rfl hs rfl rfl, buildFrame_nil_length,
    by decide⟩

/-- Settles O50: each step of the builder has its check or its inverse in the DecodePipeline. -/
theorem framesAndPlaintextsAreUndone : Obligations.FramesAndPlaintextsAreUndone :=
  ⟨fun d e => ⟨checkFrame_buildFrame d e, unstuff_interior_buildFrame d e, bodyDevid_le64_append d e,
      bodyCt_le64_append d e⟩,
    fun x => ⟨plainPayload_preparePlaintext x, checkCrc_preparePlaintext x⟩⟩

/-! ### The command BUILD -/

/-- The body BUILD puts in its frame (R220): the prepared plaintext under KEY, with `c` in the cipher's registers before
the encryption. -/
def encryptedBody (s : State) (payload : List Byte) (c : Cipher) : List Byte :=
  (ecb (encryptBlock (posRounds s)) (preparePlaintext payload) s.key.toList c).1

/-- The end of BUILD under a positive round count: its frame in OBUF, whatever registers `c` the encryption ran from,
and some values in V0, V1, S and K. -/
theorem buildEnd_admitted {s : State} (h : 0 < s.rounds.toInt) (payload : List Byte) (c : Cipher) :
    ∃ d, buildEnd payload s =
      finishOk (setObuf (buildFrame s.devidIn (encryptedBody s payload c))
        (setCt (encryptedBody s payload c) (setCipher d (runPrep payload s)))) := by
  rcases cipherRun_cases encryptBlock (preparePlaintext payload) s.key.toList (runPrep payload s) with
    ⟨_, ha, -⟩ | ⟨-, d, hrun⟩
  · cases (admission_preparePlaintext h payload).symm.trans ha
  · refine ⟨d, ?_⟩
    rw [encryptedBody, ecb_output (encryptBlock_setsS _) _ _ c (runPrep payload s).work.cipher]
    simp only [buildEnd, hrun]
    rfl

/-- The end of BUILD under any other round count (R106, R220). -/
theorem buildEnd_turnedAway {s : State} (h : s.rounds.toInt ≤ 0) (payload : List Byte) :
    buildEnd payload s = raiseFatal ⟨.cipherFailed, .cause .roundsNotPositive⟩ (runPrep payload s) := by
  have ha : admission (roundsOf (runPrep payload s)) (preparePlaintext payload) = some .roundsNotPositive := if_pos h
  simp only [buildEnd, cipherRun, ha]

/-- Settles O49: a prepared plaintext always has an admissible length, so the round count alone decides. -/
theorem buildEnds : Obligations.BuildEnds := by
  intro s bs c hs
  refine ⟨fun hpos => ?_, fun hneg => ?_⟩
  · obtain ⟨d, hend⟩ := buildEnd_admitted (s := startCommand s) hpos bs c
    exact endsWith_of_inputEnd rfl hs (congrArg viewOf hend) (congrArg State.walk hend)
  · have hend := buildEnd_turnedAway (s := startCommand s) hneg bs
    exact endsWith_of_inputEnd rfl hs ((congrArg viewOf hend).trans (viewOf_raiseFatal rfl rfl rfl _))
      (congrArg State.walk hend)

/-! ### DECODE of what BUILD makes -/

/-- What stands in OBUF after BUILD (R220). -/
theorem obuf_of_build {s t : State} {payload : List Byte} (hs : Ready s payload) (hpos : 0 < s.rounds.toInt)
    (h : exec .build s = .next t) (c : Cipher) :
    t.res.obuf = buildFrame s.devidIn (encryptedBody s payload c) := by
  obtain ⟨hbuilt, -⟩ := buildEnds s payload c hs
  obtain ⟨t', ht', -, hview, -⟩ := hbuilt hpos
  cases h.symm.trans ht'
  exact congrArg (fun o : CommandView => o.res.obuf) hview

theorem encryptedBody_length (s : State) (payload : List Byte) (c : Cipher) :
    (encryptedBody s payload c).length = (preparePlaintext payload).length :=
  ecb_length (preparePlaintext_length_mod payload) _ _ _

/-- Decryption with the same key and round count gives the prepared plaintext back (R108, R221). -/
theorem decrypt_encryptedBody (s : State) (payload : List Byte) (c d : Cipher) :
    (ecb (decryptBlock (posRounds s)) (encryptedBody s payload c) s.key.toList d).1 = preparePlaintext payload :=
  decryptUndoesEncrypt _ _ _ c d (preparePlaintext_length_mod payload)

/-- The body of a frame of BUILD is long enough for `check_body`, and in whole blocks (R140, R142). -/
theorem le64_append_encryptedBody_length (s : State) (payload : List Byte) (c : Cipher) :
    16 ≤ (le64 s.devidIn ++ encryptedBody s payload c).length ∧
    (le64 s.devidIn ++ encryptedBody s payload c).length % 8 = 0 := by
  have hfill := padCount_fills payload.length
  rw [List.length_append, le64_length, encryptedBody_length, preparePlaintext_length]
  omega

/-- DECODE of a built frame whose body decrypts to a prepared plaintext: every check passes (R217, R219, R221). -/
theorem decode_of_buildFrame {u : State} {d : BitVec 64} {e key payload : List Byte} {c : Cipher}
    (hu : Ready u (buildFrame d e)) (hmin : 16 ≤ (le64 d ++ e).length) (h8 : (le64 d ++ e).length % 8 = 0)
    (hkey : keyAnswer u (decString d) = some key) (hlen : key.length = 16) (hpos : 0 < u.rounds.toInt)
    (hpt : (ecb (decryptBlock (posRounds u)) e key c).1 = preparePlaintext payload) :
    let p := parse Config.params (padPayload payload)
    EndsAt .decode u
      { status := { done := true, ok := true, frameOk := true, crcOk := true, devidValid := true }
        res :=
          { outRes (padPayload payload) with
            devid := d, padLen := p.padLen, recq := p.recq, warnq := p.warnq, errq := p.errq }
        stage := .payloadParse
        requests := [decString d] }
      p.off := by
  have hid : bodyId (le64 d ++ e) = d := bodyDevid_le64_append d e
  have hct : (le64 d ++ e).drop 8 = e := bodyCt_le64_append d e
  have hpayload := plainPayload_preparePlaintext payload
  have htrailer := plainTrailer_preparePlaintext payload
  rw [plainPayload] at hpayload
  have hdecode := decodeCompletes u (buildFrame d e) (le64 d ++ e) key (preparePlaintext payload) c hu
    (two_le_buildFrame_length d e) (buildFrame_head? d e) (buildFrame_getLast? d e)
    (unstuff_interior_buildFrame d e) hmin h8
  rw [hid, hct, hpayload] at hdecode
  exact hdecode hkey hlen hpos hpt.symm htrailer

/-- Settles O56: the frame of BUILD is one whose body decrypts to the prepared plaintext. -/
theorem decodeUndoesBuild : Obligations.DecodeUndoesBuild := by
  intro s t u payload hs hpos hbuild hu hrounds hkey
  have hrun : posRounds u = posRounds s := by rw [posRounds, posRounds, roundsOf, roundsOf, hrounds]
  rw [obuf_of_build hs hpos hbuild s.work.cipher] at hu
  obtain ⟨hmin, h8⟩ := le64_append_encryptedBody_length s payload s.work.cipher
  have hpt := decrypt_encryptedBody s payload s.work.cipher s.work.cipher
  rw [← hrun] at hpt
  exact decode_of_buildFrame hu hmin h8 hkey Vector.length_toList (hrounds ▸ hpos) hpt

end Sys2Proof.Machine
end

section
/-! SUPPORT. A running command ends (70_reset_and_hazards.md R284, R285): every way out of a command leaves DONE = 1 and
BUSY = 0, and a walk reaches its way out by reading its buffer. -/

namespace Sys2Proof.Machine

/-- The command of `s` has ended (R22). -/
def Ended (s : State) : Prop := s.status.busy = false ∧ s.status.done = true

/-! ### The three ways out of a command -/

theorem finishOk_ended (s : State) : Ended (finishOk s) := ⟨rfl, rfl⟩

theorem raiseFatal_ended (e : FatalError) (s : State) : Ended (raiseFatal e s) := ⟨rfl, rfl⟩

theorem endCmdErr_ended (s : State) : Ended (endCmdErr s) := ⟨rfl, rfl⟩

/-! ### The ends of the commands -/

theorem crcStage_ended (s : State) : Ended (crcStage s) := by
  simp only [crcStage]
  split
  · exact raiseFatal_ended _ _
  · exact finishOk_ended _

theorem decryptStage_ended (key : List Byte) (s : State) : Ended (decryptStage key s) := by
  simp only [decryptStage]
  split
  · exact raiseFatal_ended _ _
  · exact crcStage_ended _

theorem keyStage_ended (s : State) : Ended (keyStage s) := by
  simp only [keyStage]
  split
  · exact raiseFatal_ended _ _
  · exact decryptStage_ended _ _

theorem bodyStage_ended (s : State) : Ended (bodyStage s) := by
  simp only [bodyStage]
  split
  · exact raiseFatal_ended _ _
  · split
    · exact raiseFatal_ended _ _
    · exact keyStage_ended _

theorem frameStage_ended (D : List Byte) (s : State) : Ended (frameStage D s) := by
  simp only [frameStage]
  split
  · exact raiseFatal_ended _ _
  · split
    · exact raiseFatal_ended _ _
    · exact bodyStage_ended _

theorem cipherEnd_ended (blockFn : Nat → Cipher → Cipher) (bs : List Byte) (s : State) :
    Ended (cipherEnd blockFn bs s) := by
  unfold cipherEnd
  split
  · exact raiseFatal_ended _ _
  · exact finishOk_ended _

theorem buildEnd_ended (payload : List Byte) (s : State) : Ended (buildEnd payload s) := by
  unfold buildEnd
  split
  · exact raiseFatal_ended _ _
  · exact finishOk_ended _

theorem scanEnd_ended (done : List Byte) (rest : Except FatalError (List Byte)) (s : State) :
    Ended (scanEnd done rest s) := by
  cases rest with
  | error e => exact raiseFatal_ended e s
  | ok more => exact finishOk_ended _

theorem inputEnd_ended {i : Instr} {f : List Byte → State → State} (h : inputEnd i = some f) (bs : List Byte)
    (s : State) : Ended (f bs s) := by
  cases i <;> cases h
  case decode => exact frameStage_ended bs s
  case xteaEnc | xteaDec => exact cipherEnd_ended _ bs s
  case build => exact buildEnd_ended bs s
  case unstuff => exact scanEnd_unstuff bs s ▸ scanEnd_ended [] (unstuff bs) s
  case crc16 | stuff | parse | prep | frame => exact finishOk_ended _

/-- A command that answers a next state has ended in it. -/
theorem command_ended {i : Instr} {s t : State} (hi : i.isCommand = true) (h : exec i s = .next t) : Ended t := by
  obtain ⟨-, ⟨f, bs, hf, -, rfl⟩ | ⟨d, -, -, -, rfl⟩ | rfl⟩ := command_next hi h
  · exact inputEnd_ended hf bs _
  · exact finishOk_ended _
  · exact endCmdErr_ended _

/-- A command that may start answers a next state on an input the host has written (R38, R62). -/
theorem command_answers {i : Instr} {s : State} {bs : List Byte} (hi : i.isCommand = true) (hm : mayStart s = true)
    (hr : readInput s = .ok bs) : ∃ t, exec i s = .next t := by
  rcases command_kinds hi with ⟨f, hf⟩ | rfl | hill
  · exact ⟨_, (exec_inputEnd hf s).trans (runInput_ok hm hr)⟩
  · by_cases hl : s.ilen.toNat ≤ maxEventData
    · exact ⟨_, (execEvparse_short hl).trans (runInput_ok hm hr)⟩
    · exact ⟨_, (execEvparse_long (by omega)).trans (illegalCommand_rest hm)⟩
  · exact ⟨_, (hill s).trans (illegalCommand_rest hm)⟩

/-! ### Pending commands and walks -/

/-- A pending command runs in the next step, and ends there (R60, log 9). -/
theorem step_pending {s : State} {bs : List Byte} (hp : s.cmdPending = true) (hw : s.walk = .idle)
    (hr : readInput s = .ok bs) : ∃ t, step s = .next t ∧ Ended t := by
  have hfetch : fetchBytes s = (.cmd, [s.cmd]) := by simp [fetchBytes, hw, hp]
  rcases step_cases s with ⟨i, -, -, hsp, hs⟩ | ⟨hnil, -⟩
  · have hi : i.isCommand = true := by simp [Instr.isCommand, hsp, hfetch]
    obtain ⟨t, ht⟩ := command_answers hi (mayStart_pending hp) hr
    exact ⟨t, hs.trans ht, command_ended hi ht⟩
  · simp [hfetch] at hnil

theorem walkEnd_ended {s : State} (hw : s.walk ≠ .idle) : Ended (walkEnd s) := by
  cases h : s.walk with
  | idle => exact absurd h hw
  | stuffing sc => rw [walkEnd_stuffing h]; exact finishOk_ended _
  | unstuffing sc => rw [walkEnd_unstuffing h]; exact scanEnd_ended _ _ _
  | records P => rw [walkEnd_records h]; exact finishOk_ended _
  | entries d p es => rw [walkEnd_entries h]; exact finishOk_ended _

/-- Settles O60: BUSY is 1 for a pending command, which ends in one step, or for a walk, each step of which reads on or
ends it. -/
theorem everyWalkEnds : Obligations.EveryWalkEnds := by
  intro s hinv hbusy hin
  rcases hinv.busy.1 hbusy with hp | hw
  · obtain ⟨bs, hr⟩ := hin hp
    obtain ⟨t, hs, ht⟩ := step_pending hp (hinv.pending hp).1 hr
    exact ⟨1, t, Nat.le_add_left 1 _, run_step 0 hs, ht⟩
  · have hp : s.cmdPending = false := (hinv.running hw).1.pending
    exact ⟨bytesLeft s + 1, walkEnd s, le_rfl, run_walk hp (.inr (Nat.lt_succ_self _)), walkEnd_ended hw⟩

end Sys2Proof.Machine
end

section
/-! SUPPORT. The encoder writes back what the decoder has read (30_encoding.md, opening), and what one step of the
sequencer does in each place it reads from: the decoded instruction, or the end of the input (R46, R60; log 2, 9). -/

namespace Sys2Proof

/-! ### The bytes of the instruction a row makes -/

/-- A row of one byte compares all of it, or makes an instruction that carries it. -/
theorem encode_make (sp : Space) (b : Byte) :
    ∀ r ∈ byteRows sp, encode (r.make b) = [if r.mask = 0xFF then r.pat else b] :=
  List.map_inj_left.1 (by cases sp <;> rfl)

/-- The same of the rows of pairs, all of which open with 0xC4. -/
theorem encode_make_pair (n : Byte) :
    ∀ r ∈ unstuffRows16, encode (r.make n) = [Config.ESC, if r.mask = 0xFFFF then r.pat.setWidth 8 else n] :=
  List.map_inj_left.1 rfl

/-- What a lookup answers is made by a row that covers the byte. -/
theorem covers_of_lookup8 {rows : List Row8} {b : Byte} {i : Instr} (h : lookup8 rows b = some i) :
    ∃ r ∈ rows, r.covers b = true ∧ r.make b = i := by
  obtain ⟨r, hf, hm⟩ := Option.map_eq_some_iff.1 h
  exact ⟨r, List.mem_of_find?_eq_some hf, by simpa using List.find?_some hf, hm⟩

/-- What a lookup of a pair answers is made by a row that covers the pair. -/
theorem covers_of_lookup16 {rows : List Row16} {n : Byte} {i : Instr} (h : lookup16 rows n = some i) :
    ∃ r ∈ rows, r.covers (Config.ESC ++ n) = true ∧ r.make n = i := by
  obtain ⟨r, hf, hm⟩ := Option.map_eq_some_iff.1 h
  exact ⟨r, List.mem_of_find?_eq_some hf, by simpa using List.find?_some hf, hm⟩

/-- The instruction of a byte's row is written with that byte. -/
theorem encode_of_lookup8 {sp : Space} {b : Byte} {i : Instr} (h : lookup8 (byteRows sp) b = some i) :
    encode i = [b] := by
  obtain ⟨r, hr, hc, rfl⟩ := covers_of_lookup8 h
  rw [encode_make sp b r hr]
  split
  · next hm => rw [Machine.eq_of_covers_whole hm hc]
  · rfl

/-- The instruction of a pair's row is written with that pair. -/
theorem encode_of_lookup16 {n : Byte} {i : Instr} (h : lookup16 unstuffRows16 n = some i) :
    encode i = [Config.ESC, n] := by
  obtain ⟨r, hr, hc, rfl⟩ := covers_of_lookup16 h
  rw [encode_make_pair n r hr]
  split
  · next hm =>
    rw [Row16.covers, hm, beq_iff_eq] at hc
    have hpat : Config.ESC ++ n = r.pat := BitVec.and_allOnes.symm.trans hc
    rw [← hpat, BitVec.setWidth_append_eq_right]
  · rfl

/-! ### The four ways an instruction is read -/

theorem orNoRow_eq_ok_iff {o : Option Instr} {i : Instr} : orNoRow o = .ok i ↔ o = some i := by
  cases o <;> simp [orNoRow]

/-- What the decoder answers: PAD on zeros alone (R161), the dangling 0xC4 at the end (R122), a pair behind another
0xC4, and for any other first byte its row. -/
theorem decode_kinds {sp : Space} {b : Byte} {rest : List Byte} {i : Instr} (h : decode sp (b :: rest) = .ok i) :
    (i = .pad ∧ b = 0 ∧ allZero rest = true) ∨
    (i = .unstuffDangling ∧ b = Config.ESC ∧ rest = []) ∨
    (∃ n more, b = Config.ESC ∧ rest = n :: more ∧ lookup16 unstuffRows16 n = some i) ∨
    (lookup8 (byteRows sp) b = some i ∧ (sp = .record → b = 0 → allZero rest = false) ∧
      (sp = .unstuffIn → b ≠ Config.ESC)) := by
  cases sp with
  | cmd | stuffIn | entry => exact .inr (.inr (.inr ⟨orNoRow_eq_ok_iff.1 h, nofun, nofun⟩))
  | record =>
    simp only [decode] at h
    split at h
    · next hz =>
      simp only [Bool.and_eq_true, beq_iff_eq] at hz
      cases h
      exact .inl ⟨rfl, hz⟩
    · next hz => exact .inr (.inr (.inr ⟨orNoRow_eq_ok_iff.1 h, fun _ hb => by simpa [hb] using hz, nofun⟩))
  | unstuffIn =>
    simp only [decode, beq_iff_eq] at h
    split at h
    · next hb =>
      cases rest with
      | nil => cases h; exact .inr (.inl ⟨rfl, hb, rfl⟩)
      | cons n more => exact .inr (.inr (.inl ⟨n, more, hb, rfl, orNoRow_eq_ok_iff.1 h⟩))
    · next hb => exact .inr (.inr (.inr ⟨orNoRow_eq_ok_iff.1 h, nofun, fun _ => hb⟩))

/-! ### What may follow -/

/-- Only three instructions ask anything of the bytes after them (R70, R122, R161). -/
theorem fits_of_ne {i : Instr} (hp : i ≠ .pad) (hu : i ≠ .unknown00_00) (hd : i ≠ .unstuffDangling)
    (rest : List Byte) : i.fits rest = true := by
  unfold Instr.fits
  split
  · exact absurd rfl hp
  · exact absurd rfl hu
  · exact absurd rfl hd
  · rfl

/-- An instruction read by its row admits what follows it, where the padding test and an 0xC4 have left the byte to the
rows. -/
theorem fits_of_lookup8 {b : Byte} {rest : List Byte} {i : Instr} (h : lookup8 (byteRows i.space) b = some i)
    (hz : i.space = .record → b = 0 → allZero rest = false) (he : i.space = .unstuffIn → b ≠ Config.ESC) :
    i.fits rest = true := by
  have hb := encode_of_lookup8 h
  by_cases hu : i = .unknown00_00
  · subst hu
    cases hb
    simp [Instr.fits, hz rfl rfl]
  · refine fits_of_ne ?_ hu ?_ rest
    · rintro rfl
      cases hb
      have hrow : lookup8 (byteRows .record) 0x00 = some .unknown00_00 := rfl
      cases hrow.symm.trans h
    · rintro rfl
      cases hb
      exact he rfl rfl

/-- The list read is the encoding of what the decoder answers, and bytes that it admits. -/
theorem decode_splits {sp : Space} {bs : List Byte} {i : Instr} (h : decode sp bs = .ok i) :
    ∃ rest, bs = encode i ++ rest ∧ i.fits rest = true := by
  obtain ⟨-, rfl, hne⟩ := decode_ok h
  obtain ⟨b, rest, rfl⟩ := List.exists_cons_of_ne_nil hne
  rcases decode_kinds h with ⟨rfl, rfl, hz⟩ | ⟨rfl, rfl, rfl⟩ | ⟨n, more, rfl, rfl, hl⟩ | ⟨hl, hz, he⟩
  · exact ⟨rest, rfl, hz⟩
  · exact ⟨[], rfl, rfl⟩
  · have hp := encode_of_lookup16 hl
    refine ⟨more, by rw [hp]; rfl, fits_of_ne ?_ ?_ ?_ more⟩ <;> rintro rfl <;> cases hp
  · exact ⟨rest, by rw [encode_of_lookup8 hl]; rfl, fits_of_lookup8 hl hz he⟩

/-- Settles O2: the rows of a space cover every first symbol, and each row writes back what it covers. -/
theorem encodeWritesBackDecode : Obligations.EncodeWritesBackDecode := by
  intro sp bs hne
  obtain ⟨b, more, rfl⟩ := List.exists_cons_of_ne_nil hne
  obtain ⟨i, hd, hw, hs⟩ := decode_found sp b more
  obtain ⟨rest, hbs, hf⟩ := decode_splits hd
  exact ⟨i, rest, hd, hw, hs, hbs, hf⟩

/-- Settles O3: each word is the encoding of its instruction, so it is read back. -/
theorem someWordsDecode : Obligations.SomeWordsDecode :=
  ⟨decodeReadsBackEncode .decode [] rfl rfl, decodeReadsBackEncode (.illegalCmd80_FF 0x9A) [] rfl rfl,
    decodeReadsBackEncode .telemetry [0x00] rfl rfl, decodeReadsBackEncode .unknown00_00 [0x05] rfl rfl,
    decodeReadsBackEncode .pad [0x00] rfl rfl, decodeReadsBackEncode .stuffC2 [] rfl rfl,
    decodeReadsBackEncode .unstuffEscC3 [0xC4] rfl rfl, decodeReadsBackEncode .unstuffDangling [] rfl rfl,
    decodeReadsBackEncode .entryType20 [0x05] rfl rfl⟩

end Sys2Proof

namespace Sys2Proof.Machine

section
variable {s : State}

/-! ### Where the sequencer reads -/

theorem fetchBytes_pending (hw : s.walk = .idle) (hp : s.cmdPending = true) : fetchBytes s = (.cmd, [s.cmd]) := by
  simp only [fetchBytes, hw, hp, if_true]

theorem fetchBytes_stuffing {sc : Scan} (hw : s.walk = .stuffing sc) :
    fetchBytes s = (.stuffIn, sc.buf.drop sc.i) := by simp only [fetchBytes, hw]

theorem fetchBytes_unstuffing {sc : Scan} (hw : s.walk = .unstuffing sc) :
    fetchBytes s = (.unstuffIn, sc.buf.drop sc.i) := by simp only [fetchBytes, hw]

theorem fetchBytes_records {P : List Byte} (hw : s.walk = .records P) : fetchBytes s = (.record, P.drop s.off) := by
  simp only [fetchBytes, hw]

theorem fetchBytes_entries {d : List Byte} {p : Nat} {es : List EventEntry} (hw : s.walk = .entries d p es) :
    fetchBytes s = (.entry, d.drop p) := by simp only [fetchBytes, hw]

/-! ### What a step does there -/

/-- Where an instruction stands, the step is its meaning. -/
theorem step_decoded {sp : Space} {bs : List Byte} {i : Instr} (hf : fetchBytes s = (sp, bs))
    (hd : decode sp bs = .ok i) : i.wf = true ∧ step s = exec i s :=
  ⟨(decode_ok hd).1, by simp only [step, hf, hd]⟩

/-- Where nothing is left to read, the step is the end of the input. -/
theorem step_inputEnd (h : (fetchBytes s).2 = []) : step s = .next (atEnd s) := by
  simp only [step, h, decode_nil]

/-- A step past the end of a walk's buffer leads to the state its command ends in. -/
theorem eq_atEnd_of_step {sp : Space} {buf : List Byte} {n : Nat} {t : State} (hf : fetchBytes s = (sp, buf.drop n))
    (hn : buf.length ≤ n) (h : step s = .next t) : t = atEnd s := by
  rw [step_inputEnd (by rw [hf, List.drop_of_length_le hn])] at h
  exact (Host.Outcome.next.inj h).symm

/-! ### What the end of each walk shows -/

theorem atEnd_scan {sc : Scan} (hw : s.walk = .stuffing sc ∨ s.walk = .unstuffing sc) :
    atEnd s = finishOk (setObuf sc.out s) := by
  rcases hw with hw | hw <;> simp only [atEnd, hw]

theorem atEnd_records {P : List Byte} (hw : s.walk = .records P) : atEnd s = finishOk s := by simp only [atEnd, hw]

theorem atEnd_entries {d : List Byte} {p : Nat} {es : List EventEntry} (hw : s.walk = .entries d p es) :
    atEnd s = finishEvparse d.length (entryCtx p es s) s := by simp only [atEnd, hw]

end

/-- Settles O4: the five places the sequencer reads from, and the decoder's answer there. -/
theorem stepRunsDecodedInstruction : Obligations.StepRunsDecodedInstruction := fun _ _ =>
  ⟨fun hw hp => step_decoded (fetchBytes_pending hw hp), fun _ hw => step_decoded (fetchBytes_stuffing hw),
    fun _ hw => step_decoded (fetchBytes_unstuffing hw), fun _ hw => step_decoded (fetchBytes_records hw),
    fun _ _ _ hw => step_decoded (fetchBytes_entries hw)⟩

/-- Settles O5: past its buffer a walk answers no symbol, so the step is the OK end of its command. -/
theorem stepAtTheEndOfTheInput : Obligations.StepAtTheEndOfTheInput := by
  intro s
  refine ⟨step_waits, ?scan, ?records, ?entries, fun _ h => ⟨atEnd s, step_inputEnd h⟩⟩
  case scan =>
    intro sc t hw hn h
    have hend : t = finishOk (setObuf sc.out s) := by
      rw [← atEnd_scan hw]
      rcases hw with hw | hw
      · exact eq_atEnd_of_step (fetchBytes_stuffing hw) hn h
      · exact eq_atEnd_of_step (fetchBytes_unstuffing hw) hn h
    subst hend
    exact ⟨kept_iff.2 rfl, rfl, rfl, rfl⟩
  case records =>
    intro P t hw hn h
    obtain rfl := (eq_atEnd_of_step (fetchBytes_records hw) hn h).trans (atEnd_records hw)
    exact ⟨kept_iff.2 rfl, rfl, rfl, rfl⟩
  case entries =>
    intro d p es t hw hn h
    obtain rfl := (eq_atEnd_of_step (fetchBytes_entries hw) hn h).trans (atEnd_entries hw)
    exact ⟨kept_iff.2 rfl, rfl, rfl, rfl⟩

end Sys2Proof.Machine
end
